-- ==== Sys2Proof/Word.lean ====
section
/-!
DEFINITION. The word types of the block (spec 00_scope.md R6): a memory location is one byte of 8 bits, and an
address, SP and PC are 16 bits. A memory array is a list of (index, byte) pairs; its operations stand in
Machine/Memory.lean.
-/

namespace Sys2Proof

/-- One 8-bit location or general register (R6). -/
abbrev Byte := BitVec 8

/-- A 16-bit value: an address, SP, PC or a register pair (R6). -/
abbrev Word := BitVec 16

/-- One physical memory array of R46, as its listed (index, byte) cells; see Machine/Memory.lean. -/
abbrev Memory := List Host.Cell

end Sys2Proof
end

