-- ==== Sys2Proof/Machine/Bits.lean ====
section
/-!
DEFINITION. Byte order and sign extension, each written once (spec 20_memory.md R71, 00_scope.md R16).
-/

namespace Sys2Proof

/-- Bits 15..8 of a word. -/
def hiByte (w : Word) : Byte := w.extractLsb' 8 8

/-- Bits 7..0 of a word. -/
def loByte (w : Word) : Byte := w.extractLsb' 0 8

/-- The word whose bits 15..8 are `hi` and whose bits 7..0 are `lo` (R15 concatenation). -/
def joinBytes (hi lo : Byte) : Word := hi ++ lo

/-- `sext_16` of R16: bit 7 copied into bits 15..8. -/
def signExtend16 (b : Byte) : Word := b.signExtend 16

/-- `0xFF00 + o`, the address of the a8 and (C) forms (R146). -/
def highPage (o : Byte) : Word := joinBytes 0xFF#8 o

end Sys2Proof
end

