-- ==== Sys2Proof/Syntax.lean ====
section
/-!
DEFINITION. The instructions of the block, one constructor per row of spec/opcode_table.json (spec 30_encoding.md
R147 to R153, R161), and the operand names the instruction fields stand for (R143 to R145, R154).
-/

namespace Sys2Proof

/-- The 8-bit registers an instruction can name; F has no code (R63, R143). -/
inductive Reg8 where
  | b | c | d | e | h | l | a
deriving DecidableEq, Repr

/-- The 16-bit registers of LD rr,d16, INC rr, DEC rr and ADD HL,rr (R144). -/
inductive Reg16 where
  | bc | de | hl | sp
deriving DecidableEq, Repr

/-- The pairs of PUSH and POP (R144). -/
inductive Stk16 where
  | bc | de | hl | af
deriving DecidableEq, Repr

/-- The branch conditions (R145). -/
inductive Cond where
  | nz | z | nc | c
deriving DecidableEq, Repr

/-- The eight accumulator operations (R154). -/
inductive AluOp where
  | add | adc | sub | sbc | and | xor | or | cp
deriving DecidableEq, Repr

/-- The eight rotate and shift kinds (R154, R310). -/
inductive RotKind where
  | rlc | rrc | rl | rr | sla | sra | swap | srl
deriving DecidableEq, Repr

/-- A value 0 to 7 of field y: a bit number, or the number of a restart target (R154). -/
inductive Index8 where
  | i0 | i1 | i2 | i3 | i4 | i5 | i6 | i7
deriving DecidableEq, Repr

/-- What a register code names: a register, or with code 6 the memory byte at HL (R143). -/
inductive Loc8 where
  | reg (r : Reg8)
  | atHL
deriving DecidableEq, Repr

/-- The operand forms of the accumulator operations (R250). -/
inductive Src8 where
  | reg (r : Reg8)
  | atHL
  | imm (n : Byte)
deriving DecidableEq, Repr

/-- The instructions. An immediate stands as it is encoded: `n` a d8, `d` the r8 byte (signed when used), `o` an a8,
`nn` a d16 or a16, `pad` the ignored second byte of STOP, `e` the byte after the prefix. The rows with an immediate
come first (Lean's runtime bounds the number of a constructor that has fields), then the others in the table's order. -/
inductive Instr where
  /-- LD BC,d16 (0x01). -/
  | ldBC_d16 (nn : Word)
  /-- LD B,d8 (0x06). -/
  | ldB_d8 (n : Byte)
  /-- LD (a16),SP (0x08). -/
  | ldAtA16_SP (nn : Word)
  /-- LD C,d8 (0x0E). -/
  | ldC_d8 (n : Byte)
  /-- STOP (0x10). -/
  | stop (pad : Byte)
  /-- LD DE,d16 (0x11). -/
  | ldDE_d16 (nn : Word)
  /-- LD D,d8 (0x16). -/
  | ldD_d8 (n : Byte)
  /-- JR r8 (0x18). -/
  | jr_r8 (d : Byte)
  /-- LD E,d8 (0x1E). -/
  | ldE_d8 (n : Byte)
  /-- JR NZ,r8 (0x20). -/
  | jrNZ_r8 (d : Byte)
  /-- LD HL,d16 (0x21). -/
  | ldHL_d16 (nn : Word)
  /-- LD H,d8 (0x26). -/
  | ldH_d8 (n : Byte)
  /-- JR Z,r8 (0x28). -/
  | jrZ_r8 (d : Byte)
  /-- LD L,d8 (0x2E). -/
  | ldL_d8 (n : Byte)
  /-- JR NC,r8 (0x30). -/
  | jrNC_r8 (d : Byte)
  /-- LD SP,d16 (0x31). -/
  | ldSP_d16 (nn : Word)
  /-- LD (HL),d8 (0x36). -/
  | ldAtHL_d8 (n : Byte)
  /-- JR C,r8 (0x38). -/
  | jrC_r8 (d : Byte)
  /-- LD A,d8 (0x3E). -/
  | ldA_d8 (n : Byte)
  /-- JP NZ,a16 (0xC2). -/
  | jpNZ_a16 (nn : Word)
  /-- JP a16 (0xC3). -/
  | jp_a16 (nn : Word)
  /-- CALL NZ,a16 (0xC4). -/
  | callNZ_a16 (nn : Word)
  /-- ADD A,d8 (0xC6). -/
  | addA_d8 (n : Byte)
  /-- JP Z,a16 (0xCA). -/
  | jpZ_a16 (nn : Word)
  /-- PREFIX CB (0xCB). -/
  | prefixCB (e : Byte)
  /-- CALL Z,a16 (0xCC). -/
  | callZ_a16 (nn : Word)
  /-- CALL a16 (0xCD). -/
  | call_a16 (nn : Word)
  /-- ADC A,d8 (0xCE). -/
  | adcA_d8 (n : Byte)
  /-- JP NC,a16 (0xD2). -/
  | jpNC_a16 (nn : Word)
  /-- CALL NC,a16 (0xD4). -/
  | callNC_a16 (nn : Word)
  /-- SUB d8 (0xD6). -/
  | sub_d8 (n : Byte)
  /-- JP C,a16 (0xDA). -/
  | jpC_a16 (nn : Word)
  /-- CALL C,a16 (0xDC). -/
  | callC_a16 (nn : Word)
  /-- SBC A,d8 (0xDE). -/
  | sbcA_d8 (n : Byte)
  /-- LDH (a8),A (0xE0). -/
  | ldhAtA8_A (o : Byte)
  /-- AND d8 (0xE6). -/
  | and_d8 (n : Byte)
  /-- ADD SP,r8 (0xE8). -/
  | addSP_r8 (d : Byte)
  /-- LD (a16),A (0xEA). -/
  | ldAtA16_A (nn : Word)
  /-- XOR d8 (0xEE). -/
  | xor_d8 (n : Byte)
  /-- LDH A,(a8) (0xF0). -/
  | ldhA_AtA8 (o : Byte)
  /-- OR d8 (0xF6). -/
  | or_d8 (n : Byte)
  /-- LD HL,SP+r8 (0xF8). -/
  | ldHL_SPr8 (d : Byte)
  /-- LD A,(a16) (0xFA). -/
  | ldA_AtA16 (nn : Word)
  /-- CP d8 (0xFE). -/
  | cp_d8 (n : Byte)
  /-- NOP (0x00). -/
  | nop
  /-- LD (BC),A (0x02). -/
  | ldAtBC_A
  /-- INC BC (0x03). -/
  | incBC
  /-- INC B (0x04). -/
  | incB
  /-- DEC B (0x05). -/
  | decB
  /-- RLCA (0x07). -/
  | rlca
  /-- ADD HL,BC (0x09). -/
  | addHL_BC
  /-- LD A,(BC) (0x0A). -/
  | ldA_AtBC
  /-- DEC BC (0x0B). -/
  | decBC
  /-- INC C (0x0C). -/
  | incC
  /-- DEC C (0x0D). -/
  | decC
  /-- RRCA (0x0F). -/
  | rrca
  /-- LD (DE),A (0x12). -/
  | ldAtDE_A
  /-- INC DE (0x13). -/
  | incDE
  /-- INC D (0x14). -/
  | incD
  /-- DEC D (0x15). -/
  | decD
  /-- RLA (0x17). -/
  | rla
  /-- ADD HL,DE (0x19). -/
  | addHL_DE
  /-- LD A,(DE) (0x1A). -/
  | ldA_AtDE
  /-- DEC DE (0x1B). -/
  | decDE
  /-- INC E (0x1C). -/
  | incE
  /-- DEC E (0x1D). -/
  | decE
  /-- RRA (0x1F). -/
  | rra
  /-- LD (HL+),A (0x22). -/
  | ldAtHLInc_A
  /-- INC HL (0x23). -/
  | incHL
  /-- INC H (0x24). -/
  | incH
  /-- DEC H (0x25). -/
  | decH
  /-- DAA (0x27). -/
  | daa
  /-- ADD HL,HL (0x29). -/
  | addHL_HL
  /-- LD A,(HL+) (0x2A). -/
  | ldA_AtHLInc
  /-- DEC HL (0x2B). -/
  | decHL
  /-- INC L (0x2C). -/
  | incL
  /-- DEC L (0x2D). -/
  | decL
  /-- CPL (0x2F). -/
  | cpl
  /-- LD (HL-),A (0x32). -/
  | ldAtHLDec_A
  /-- INC SP (0x33). -/
  | incSP
  /-- INC (HL) (0x34). -/
  | incAtHL
  /-- DEC (HL) (0x35). -/
  | decAtHL
  /-- SCF (0x37). -/
  | scf
  /-- ADD HL,SP (0x39). -/
  | addHL_SP
  /-- LD A,(HL-) (0x3A). -/
  | ldA_AtHLDec
  /-- DEC SP (0x3B). -/
  | decSP
  /-- INC A (0x3C). -/
  | incA
  /-- DEC A (0x3D). -/
  | decA
  /-- CCF (0x3F). -/
  | ccf
  /-- LD B,B (0x40). -/
  | ldB_B
  /-- LD B,C (0x41). -/
  | ldB_C
  /-- LD B,D (0x42). -/
  | ldB_D
  /-- LD B,E (0x43). -/
  | ldB_E
  /-- LD B,H (0x44). -/
  | ldB_H
  /-- LD B,L (0x45). -/
  | ldB_L
  /-- LD B,(HL) (0x46). -/
  | ldB_AtHL
  /-- LD B,A (0x47). -/
  | ldB_A
  /-- LD C,B (0x48). -/
  | ldC_B
  /-- LD C,C (0x49). -/
  | ldC_C
  /-- LD C,D (0x4A). -/
  | ldC_D
  /-- LD C,E (0x4B). -/
  | ldC_E
  /-- LD C,H (0x4C). -/
  | ldC_H
  /-- LD C,L (0x4D). -/
  | ldC_L
  /-- LD C,(HL) (0x4E). -/
  | ldC_AtHL
  /-- LD C,A (0x4F). -/
  | ldC_A
  /-- LD D,B (0x50). -/
  | ldD_B
  /-- LD D,C (0x51). -/
  | ldD_C
  /-- LD D,D (0x52). -/
  | ldD_D
  /-- LD D,E (0x53). -/
  | ldD_E
  /-- LD D,H (0x54). -/
  | ldD_H
  /-- LD D,L (0x55). -/
  | ldD_L
  /-- LD D,(HL) (0x56). -/
  | ldD_AtHL
  /-- LD D,A (0x57). -/
  | ldD_A
  /-- LD E,B (0x58). -/
  | ldE_B
  /-- LD E,C (0x59). -/
  | ldE_C
  /-- LD E,D (0x5A). -/
  | ldE_D
  /-- LD E,E (0x5B). -/
  | ldE_E
  /-- LD E,H (0x5C). -/
  | ldE_H
  /-- LD E,L (0x5D). -/
  | ldE_L
  /-- LD E,(HL) (0x5E). -/
  | ldE_AtHL
  /-- LD E,A (0x5F). -/
  | ldE_A
  /-- LD H,B (0x60). -/
  | ldH_B
  /-- LD H,C (0x61). -/
  | ldH_C
  /-- LD H,D (0x62). -/
  | ldH_D
  /-- LD H,E (0x63). -/
  | ldH_E
  /-- LD H,H (0x64). -/
  | ldH_H
  /-- LD H,L (0x65). -/
  | ldH_L
  /-- LD H,(HL) (0x66). -/
  | ldH_AtHL
  /-- LD H,A (0x67). -/
  | ldH_A
  /-- LD L,B (0x68). -/
  | ldL_B
  /-- LD L,C (0x69). -/
  | ldL_C
  /-- LD L,D (0x6A). -/
  | ldL_D
  /-- LD L,E (0x6B). -/
  | ldL_E
  /-- LD L,H (0x6C). -/
  | ldL_H
  /-- LD L,L (0x6D). -/
  | ldL_L
  /-- LD L,(HL) (0x6E). -/
  | ldL_AtHL
  /-- LD L,A (0x6F). -/
  | ldL_A
  /-- LD (HL),B (0x70). -/
  | ldAtHL_B
  /-- LD (HL),C (0x71). -/
  | ldAtHL_C
  /-- LD (HL),D (0x72). -/
  | ldAtHL_D
  /-- LD (HL),E (0x73). -/
  | ldAtHL_E
  /-- LD (HL),H (0x74). -/
  | ldAtHL_H
  /-- LD (HL),L (0x75). -/
  | ldAtHL_L
  /-- HALT (0x76). -/
  | halt
  /-- LD (HL),A (0x77). -/
  | ldAtHL_A
  /-- LD A,B (0x78). -/
  | ldA_B
  /-- LD A,C (0x79). -/
  | ldA_C
  /-- LD A,D (0x7A). -/
  | ldA_D
  /-- LD A,E (0x7B). -/
  | ldA_E
  /-- LD A,H (0x7C). -/
  | ldA_H
  /-- LD A,L (0x7D). -/
  | ldA_L
  /-- LD A,(HL) (0x7E). -/
  | ldA_AtHL
  /-- LD A,A (0x7F). -/
  | ldA_A
  /-- ADD A,B (0x80). -/
  | addA_B
  /-- ADD A,C (0x81). -/
  | addA_C
  /-- ADD A,D (0x82). -/
  | addA_D
  /-- ADD A,E (0x83). -/
  | addA_E
  /-- ADD A,H (0x84). -/
  | addA_H
  /-- ADD A,L (0x85). -/
  | addA_L
  /-- ADD A,(HL) (0x86). -/
  | addA_AtHL
  /-- ADD A,A (0x87). -/
  | addA_A
  /-- ADC A,B (0x88). -/
  | adcA_B
  /-- ADC A,C (0x89). -/
  | adcA_C
  /-- ADC A,D (0x8A). -/
  | adcA_D
  /-- ADC A,E (0x8B). -/
  | adcA_E
  /-- ADC A,H (0x8C). -/
  | adcA_H
  /-- ADC A,L (0x8D). -/
  | adcA_L
  /-- ADC A,(HL) (0x8E). -/
  | adcA_AtHL
  /-- ADC A,A (0x8F). -/
  | adcA_A
  /-- SUB B (0x90). -/
  | subB
  /-- SUB C (0x91). -/
  | subC
  /-- SUB D (0x92). -/
  | subD
  /-- SUB E (0x93). -/
  | subE
  /-- SUB H (0x94). -/
  | subH
  /-- SUB L (0x95). -/
  | subL
  /-- SUB (HL) (0x96). -/
  | subAtHL
  /-- SUB A (0x97). -/
  | subA
  /-- SBC A,B (0x98). -/
  | sbcA_B
  /-- SBC A,C (0x99). -/
  | sbcA_C
  /-- SBC A,D (0x9A). -/
  | sbcA_D
  /-- SBC A,E (0x9B). -/
  | sbcA_E
  /-- SBC A,H (0x9C). -/
  | sbcA_H
  /-- SBC A,L (0x9D). -/
  | sbcA_L
  /-- SBC A,(HL) (0x9E). -/
  | sbcA_AtHL
  /-- SBC A,A (0x9F). -/
  | sbcA_A
  /-- AND B (0xA0). -/
  | andB
  /-- AND C (0xA1). -/
  | andC
  /-- AND D (0xA2). -/
  | andD
  /-- AND E (0xA3). -/
  | andE
  /-- AND H (0xA4). -/
  | andH
  /-- AND L (0xA5). -/
  | andL
  /-- AND (HL) (0xA6). -/
  | andAtHL
  /-- AND A (0xA7). -/
  | andA
  /-- XOR B (0xA8). -/
  | xorB
  /-- XOR C (0xA9). -/
  | xorC
  /-- XOR D (0xAA). -/
  | xorD
  /-- XOR E (0xAB). -/
  | xorE
  /-- XOR H (0xAC). -/
  | xorH
  /-- XOR L (0xAD). -/
  | xorL
  /-- XOR (HL) (0xAE). -/
  | xorAtHL
  /-- XOR A (0xAF). -/
  | xorA
  /-- OR B (0xB0). -/
  | orB
  /-- OR C (0xB1). -/
  | orC
  /-- OR D (0xB2). -/
  | orD
  /-- OR E (0xB3). -/
  | orE
  /-- OR H (0xB4). -/
  | orH
  /-- OR L (0xB5). -/
  | orL
  /-- OR (HL) (0xB6). -/
  | orAtHL
  /-- OR A (0xB7). -/
  | orA
  /-- CP B (0xB8). -/
  | cpB
  /-- CP C (0xB9). -/
  | cpC
  /-- CP D (0xBA). -/
  | cpD
  /-- CP E (0xBB). -/
  | cpE
  /-- CP H (0xBC). -/
  | cpH
  /-- CP L (0xBD). -/
  | cpL
  /-- CP (HL) (0xBE). -/
  | cpAtHL
  /-- CP A (0xBF). -/
  | cpA
  /-- RET NZ (0xC0). -/
  | retNZ
  /-- POP BC (0xC1). -/
  | popBC
  /-- PUSH BC (0xC5). -/
  | pushBC
  /-- RST 0x00 (0xC7). -/
  | rst00
  /-- RET Z (0xC8). -/
  | retZ
  /-- RET (0xC9). -/
  | ret
  /-- RST 0x08 (0xCF). -/
  | rst08
  /-- RET NC (0xD0). -/
  | retNC
  /-- POP DE (0xD1). -/
  | popDE
  /-- undefined 0xD3 (0xD3). -/
  | undefD3
  /-- PUSH DE (0xD5). -/
  | pushDE
  /-- RST 0x10 (0xD7). -/
  | rst10
  /-- RET C (0xD8). -/
  | retC
  /-- RETI (0xD9). -/
  | reti
  /-- undefined 0xDB (0xDB). -/
  | undefDB
  /-- undefined 0xDD (0xDD). -/
  | undefDD
  /-- RST 0x18 (0xDF). -/
  | rst18
  /-- POP HL (0xE1). -/
  | popHL
  /-- LD (C),A (0xE2). -/
  | ldAtC_A
  /-- undefined 0xE3 (0xE3). -/
  | undefE3
  /-- undefined 0xE4 (0xE4). -/
  | undefE4
  /-- PUSH HL (0xE5). -/
  | pushHL
  /-- RST 0x20 (0xE7). -/
  | rst20
  /-- JP HL (0xE9). -/
  | jpHL
  /-- undefined 0xEB (0xEB). -/
  | undefEB
  /-- undefined 0xEC (0xEC). -/
  | undefEC
  /-- undefined 0xED (0xED). -/
  | undefED
  /-- RST 0x28 (0xEF). -/
  | rst28
  /-- POP AF (0xF1). -/
  | popAF
  /-- LD A,(C) (0xF2). -/
  | ldA_AtC
  /-- DI (0xF3). -/
  | di
  /-- undefined 0xF4 (0xF4). -/
  | undefF4
  /-- PUSH AF (0xF5). -/
  | pushAF
  /-- RST 0x30 (0xF7). -/
  | rst30
  /-- LD SP,HL (0xF9). -/
  | ldSP_HL
  /-- EI (0xFB). -/
  | ei
  /-- undefined 0xFC (0xFC). -/
  | undefFC
  /-- undefined 0xFD (0xFD). -/
  | undefFD
  /-- RST 0x38 (0xFF). -/
  | rst38
  /-- RLC B (0xCB 0x00). -/
  | rlcB
  /-- RLC C (0xCB 0x01). -/
  | rlcC
  /-- RLC D (0xCB 0x02). -/
  | rlcD
  /-- RLC E (0xCB 0x03). -/
  | rlcE
  /-- RLC H (0xCB 0x04). -/
  | rlcH
  /-- RLC L (0xCB 0x05). -/
  | rlcL
  /-- RLC (HL) (0xCB 0x06). -/
  | rlcAtHL
  /-- RLC A (0xCB 0x07). -/
  | rlcA
  /-- RRC B (0xCB 0x08). -/
  | rrcB
  /-- RRC C (0xCB 0x09). -/
  | rrcC
  /-- RRC D (0xCB 0x0A). -/
  | rrcD
  /-- RRC E (0xCB 0x0B). -/
  | rrcE
  /-- RRC H (0xCB 0x0C). -/
  | rrcH
  /-- RRC L (0xCB 0x0D). -/
  | rrcL
  /-- RRC (HL) (0xCB 0x0E). -/
  | rrcAtHL
  /-- RRC A (0xCB 0x0F). -/
  | rrcA
  /-- RL B (0xCB 0x10). -/
  | rlB
  /-- RL C (0xCB 0x11). -/
  | rlC
  /-- RL D (0xCB 0x12). -/
  | rlD
  /-- RL E (0xCB 0x13). -/
  | rlE
  /-- RL H (0xCB 0x14). -/
  | rlH
  /-- RL L (0xCB 0x15). -/
  | rlL
  /-- RL (HL) (0xCB 0x16). -/
  | rlAtHL
  /-- RL A (0xCB 0x17). -/
  | rlA
  /-- RR B (0xCB 0x18). -/
  | rrB
  /-- RR C (0xCB 0x19). -/
  | rrC
  /-- RR D (0xCB 0x1A). -/
  | rrD
  /-- RR E (0xCB 0x1B). -/
  | rrE
  /-- RR H (0xCB 0x1C). -/
  | rrH
  /-- RR L (0xCB 0x1D). -/
  | rrL
  /-- RR (HL) (0xCB 0x1E). -/
  | rrAtHL
  /-- RR A (0xCB 0x1F). -/
  | rrA
  /-- SLA B (0xCB 0x20). -/
  | slaB
  /-- SLA C (0xCB 0x21). -/
  | slaC
  /-- SLA D (0xCB 0x22). -/
  | slaD
  /-- SLA E (0xCB 0x23). -/
  | slaE
  /-- SLA H (0xCB 0x24). -/
  | slaH
  /-- SLA L (0xCB 0x25). -/
  | slaL
  /-- SLA (HL) (0xCB 0x26). -/
  | slaAtHL
  /-- SLA A (0xCB 0x27). -/
  | slaA
  /-- SRA B (0xCB 0x28). -/
  | sraB
  /-- SRA C (0xCB 0x29). -/
  | sraC
  /-- SRA D (0xCB 0x2A). -/
  | sraD
  /-- SRA E (0xCB 0x2B). -/
  | sraE
  /-- SRA H (0xCB 0x2C). -/
  | sraH
  /-- SRA L (0xCB 0x2D). -/
  | sraL
  /-- SRA (HL) (0xCB 0x2E). -/
  | sraAtHL
  /-- SRA A (0xCB 0x2F). -/
  | sraA
  /-- SWAP B (0xCB 0x30). -/
  | swapB
  /-- SWAP C (0xCB 0x31). -/
  | swapC
  /-- SWAP D (0xCB 0x32). -/
  | swapD
  /-- SWAP E (0xCB 0x33). -/
  | swapE
  /-- SWAP H (0xCB 0x34). -/
  | swapH
  /-- SWAP L (0xCB 0x35). -/
  | swapL
  /-- SWAP (HL) (0xCB 0x36). -/
  | swapAtHL
  /-- SWAP A (0xCB 0x37). -/
  | swapA
  /-- SRL B (0xCB 0x38). -/
  | srlB
  /-- SRL C (0xCB 0x39). -/
  | srlC
  /-- SRL D (0xCB 0x3A). -/
  | srlD
  /-- SRL E (0xCB 0x3B). -/
  | srlE
  /-- SRL H (0xCB 0x3C). -/
  | srlH
  /-- SRL L (0xCB 0x3D). -/
  | srlL
  /-- SRL (HL) (0xCB 0x3E). -/
  | srlAtHL
  /-- SRL A (0xCB 0x3F). -/
  | srlA
  /-- BIT 0,B (0xCB 0x40). -/
  | bit0_B
  /-- BIT 0,C (0xCB 0x41). -/
  | bit0_C
  /-- BIT 0,D (0xCB 0x42). -/
  | bit0_D
  /-- BIT 0,E (0xCB 0x43). -/
  | bit0_E
  /-- BIT 0,H (0xCB 0x44). -/
  | bit0_H
  /-- BIT 0,L (0xCB 0x45). -/
  | bit0_L
  /-- BIT 0,(HL) (0xCB 0x46). -/
  | bit0_AtHL
  /-- BIT 0,A (0xCB 0x47). -/
  | bit0_A
  /-- BIT 1,B (0xCB 0x48). -/
  | bit1_B
  /-- BIT 1,C (0xCB 0x49). -/
  | bit1_C
  /-- BIT 1,D (0xCB 0x4A). -/
  | bit1_D
  /-- BIT 1,E (0xCB 0x4B). -/
  | bit1_E
  /-- BIT 1,H (0xCB 0x4C). -/
  | bit1_H
  /-- BIT 1,L (0xCB 0x4D). -/
  | bit1_L
  /-- BIT 1,(HL) (0xCB 0x4E). -/
  | bit1_AtHL
  /-- BIT 1,A (0xCB 0x4F). -/
  | bit1_A
  /-- BIT 2,B (0xCB 0x50). -/
  | bit2_B
  /-- BIT 2,C (0xCB 0x51). -/
  | bit2_C
  /-- BIT 2,D (0xCB 0x52). -/
  | bit2_D
  /-- BIT 2,E (0xCB 0x53). -/
  | bit2_E
  /-- BIT 2,H (0xCB 0x54). -/
  | bit2_H
  /-- BIT 2,L (0xCB 0x55). -/
  | bit2_L
  /-- BIT 2,(HL) (0xCB 0x56). -/
  | bit2_AtHL
  /-- BIT 2,A (0xCB 0x57). -/
  | bit2_A
  /-- BIT 3,B (0xCB 0x58). -/
  | bit3_B
  /-- BIT 3,C (0xCB 0x59). -/
  | bit3_C
  /-- BIT 3,D (0xCB 0x5A). -/
  | bit3_D
  /-- BIT 3,E (0xCB 0x5B). -/
  | bit3_E
  /-- BIT 3,H (0xCB 0x5C). -/
  | bit3_H
  /-- BIT 3,L (0xCB 0x5D). -/
  | bit3_L
  /-- BIT 3,(HL) (0xCB 0x5E). -/
  | bit3_AtHL
  /-- BIT 3,A (0xCB 0x5F). -/
  | bit3_A
  /-- BIT 4,B (0xCB 0x60). -/
  | bit4_B
  /-- BIT 4,C (0xCB 0x61). -/
  | bit4_C
  /-- BIT 4,D (0xCB 0x62). -/
  | bit4_D
  /-- BIT 4,E (0xCB 0x63). -/
  | bit4_E
  /-- BIT 4,H (0xCB 0x64). -/
  | bit4_H
  /-- BIT 4,L (0xCB 0x65). -/
  | bit4_L
  /-- BIT 4,(HL) (0xCB 0x66). -/
  | bit4_AtHL
  /-- BIT 4,A (0xCB 0x67). -/
  | bit4_A
  /-- BIT 5,B (0xCB 0x68). -/
  | bit5_B
  /-- BIT 5,C (0xCB 0x69). -/
  | bit5_C
  /-- BIT 5,D (0xCB 0x6A). -/
  | bit5_D
  /-- BIT 5,E (0xCB 0x6B). -/
  | bit5_E
  /-- BIT 5,H (0xCB 0x6C). -/
  | bit5_H
  /-- BIT 5,L (0xCB 0x6D). -/
  | bit5_L
  /-- BIT 5,(HL) (0xCB 0x6E). -/
  | bit5_AtHL
  /-- BIT 5,A (0xCB 0x6F). -/
  | bit5_A
  /-- BIT 6,B (0xCB 0x70). -/
  | bit6_B
  /-- BIT 6,C (0xCB 0x71). -/
  | bit6_C
  /-- BIT 6,D (0xCB 0x72). -/
  | bit6_D
  /-- BIT 6,E (0xCB 0x73). -/
  | bit6_E
  /-- BIT 6,H (0xCB 0x74). -/
  | bit6_H
  /-- BIT 6,L (0xCB 0x75). -/
  | bit6_L
  /-- BIT 6,(HL) (0xCB 0x76). -/
  | bit6_AtHL
  /-- BIT 6,A (0xCB 0x77). -/
  | bit6_A
  /-- BIT 7,B (0xCB 0x78). -/
  | bit7_B
  /-- BIT 7,C (0xCB 0x79). -/
  | bit7_C
  /-- BIT 7,D (0xCB 0x7A). -/
  | bit7_D
  /-- BIT 7,E (0xCB 0x7B). -/
  | bit7_E
  /-- BIT 7,H (0xCB 0x7C). -/
  | bit7_H
  /-- BIT 7,L (0xCB 0x7D). -/
  | bit7_L
  /-- BIT 7,(HL) (0xCB 0x7E). -/
  | bit7_AtHL
  /-- BIT 7,A (0xCB 0x7F). -/
  | bit7_A
  /-- RES 0,B (0xCB 0x80). -/
  | res0_B
  /-- RES 0,C (0xCB 0x81). -/
  | res0_C
  /-- RES 0,D (0xCB 0x82). -/
  | res0_D
  /-- RES 0,E (0xCB 0x83). -/
  | res0_E
  /-- RES 0,H (0xCB 0x84). -/
  | res0_H
  /-- RES 0,L (0xCB 0x85). -/
  | res0_L
  /-- RES 0,(HL) (0xCB 0x86). -/
  | res0_AtHL
  /-- RES 0,A (0xCB 0x87). -/
  | res0_A
  /-- RES 1,B (0xCB 0x88). -/
  | res1_B
  /-- RES 1,C (0xCB 0x89). -/
  | res1_C
  /-- RES 1,D (0xCB 0x8A). -/
  | res1_D
  /-- RES 1,E (0xCB 0x8B). -/
  | res1_E
  /-- RES 1,H (0xCB 0x8C). -/
  | res1_H
  /-- RES 1,L (0xCB 0x8D). -/
  | res1_L
  /-- RES 1,(HL) (0xCB 0x8E). -/
  | res1_AtHL
  /-- RES 1,A (0xCB 0x8F). -/
  | res1_A
  /-- RES 2,B (0xCB 0x90). -/
  | res2_B
  /-- RES 2,C (0xCB 0x91). -/
  | res2_C
  /-- RES 2,D (0xCB 0x92). -/
  | res2_D
  /-- RES 2,E (0xCB 0x93). -/
  | res2_E
  /-- RES 2,H (0xCB 0x94). -/
  | res2_H
  /-- RES 2,L (0xCB 0x95). -/
  | res2_L
  /-- RES 2,(HL) (0xCB 0x96). -/
  | res2_AtHL
  /-- RES 2,A (0xCB 0x97). -/
  | res2_A
  /-- RES 3,B (0xCB 0x98). -/
  | res3_B
  /-- RES 3,C (0xCB 0x99). -/
  | res3_C
  /-- RES 3,D (0xCB 0x9A). -/
  | res3_D
  /-- RES 3,E (0xCB 0x9B). -/
  | res3_E
  /-- RES 3,H (0xCB 0x9C). -/
  | res3_H
  /-- RES 3,L (0xCB 0x9D). -/
  | res3_L
  /-- RES 3,(HL) (0xCB 0x9E). -/
  | res3_AtHL
  /-- RES 3,A (0xCB 0x9F). -/
  | res3_A
  /-- RES 4,B (0xCB 0xA0). -/
  | res4_B
  /-- RES 4,C (0xCB 0xA1). -/
  | res4_C
  /-- RES 4,D (0xCB 0xA2). -/
  | res4_D
  /-- RES 4,E (0xCB 0xA3). -/
  | res4_E
  /-- RES 4,H (0xCB 0xA4). -/
  | res4_H
  /-- RES 4,L (0xCB 0xA5). -/
  | res4_L
  /-- RES 4,(HL) (0xCB 0xA6). -/
  | res4_AtHL
  /-- RES 4,A (0xCB 0xA7). -/
  | res4_A
  /-- RES 5,B (0xCB 0xA8). -/
  | res5_B
  /-- RES 5,C (0xCB 0xA9). -/
  | res5_C
  /-- RES 5,D (0xCB 0xAA). -/
  | res5_D
  /-- RES 5,E (0xCB 0xAB). -/
  | res5_E
  /-- RES 5,H (0xCB 0xAC). -/
  | res5_H
  /-- RES 5,L (0xCB 0xAD). -/
  | res5_L
  /-- RES 5,(HL) (0xCB 0xAE). -/
  | res5_AtHL
  /-- RES 5,A (0xCB 0xAF). -/
  | res5_A
  /-- RES 6,B (0xCB 0xB0). -/
  | res6_B
  /-- RES 6,C (0xCB 0xB1). -/
  | res6_C
  /-- RES 6,D (0xCB 0xB2). -/
  | res6_D
  /-- RES 6,E (0xCB 0xB3). -/
  | res6_E
  /-- RES 6,H (0xCB 0xB4). -/
  | res6_H
  /-- RES 6,L (0xCB 0xB5). -/
  | res6_L
  /-- RES 6,(HL) (0xCB 0xB6). -/
  | res6_AtHL
  /-- RES 6,A (0xCB 0xB7). -/
  | res6_A
  /-- RES 7,B (0xCB 0xB8). -/
  | res7_B
  /-- RES 7,C (0xCB 0xB9). -/
  | res7_C
  /-- RES 7,D (0xCB 0xBA). -/
  | res7_D
  /-- RES 7,E (0xCB 0xBB). -/
  | res7_E
  /-- RES 7,H (0xCB 0xBC). -/
  | res7_H
  /-- RES 7,L (0xCB 0xBD). -/
  | res7_L
  /-- RES 7,(HL) (0xCB 0xBE). -/
  | res7_AtHL
  /-- RES 7,A (0xCB 0xBF). -/
  | res7_A
  /-- SET 0,B (0xCB 0xC0). -/
  | set0_B
  /-- SET 0,C (0xCB 0xC1). -/
  | set0_C
  /-- SET 0,D (0xCB 0xC2). -/
  | set0_D
  /-- SET 0,E (0xCB 0xC3). -/
  | set0_E
  /-- SET 0,H (0xCB 0xC4). -/
  | set0_H
  /-- SET 0,L (0xCB 0xC5). -/
  | set0_L
  /-- SET 0,(HL) (0xCB 0xC6). -/
  | set0_AtHL
  /-- SET 0,A (0xCB 0xC7). -/
  | set0_A
  /-- SET 1,B (0xCB 0xC8). -/
  | set1_B
  /-- SET 1,C (0xCB 0xC9). -/
  | set1_C
  /-- SET 1,D (0xCB 0xCA). -/
  | set1_D
  /-- SET 1,E (0xCB 0xCB). -/
  | set1_E
  /-- SET 1,H (0xCB 0xCC). -/
  | set1_H
  /-- SET 1,L (0xCB 0xCD). -/
  | set1_L
  /-- SET 1,(HL) (0xCB 0xCE). -/
  | set1_AtHL
  /-- SET 1,A (0xCB 0xCF). -/
  | set1_A
  /-- SET 2,B (0xCB 0xD0). -/
  | set2_B
  /-- SET 2,C (0xCB 0xD1). -/
  | set2_C
  /-- SET 2,D (0xCB 0xD2). -/
  | set2_D
  /-- SET 2,E (0xCB 0xD3). -/
  | set2_E
  /-- SET 2,H (0xCB 0xD4). -/
  | set2_H
  /-- SET 2,L (0xCB 0xD5). -/
  | set2_L
  /-- SET 2,(HL) (0xCB 0xD6). -/
  | set2_AtHL
  /-- SET 2,A (0xCB 0xD7). -/
  | set2_A
  /-- SET 3,B (0xCB 0xD8). -/
  | set3_B
  /-- SET 3,C (0xCB 0xD9). -/
  | set3_C
  /-- SET 3,D (0xCB 0xDA). -/
  | set3_D
  /-- SET 3,E (0xCB 0xDB). -/
  | set3_E
  /-- SET 3,H (0xCB 0xDC). -/
  | set3_H
  /-- SET 3,L (0xCB 0xDD). -/
  | set3_L
  /-- SET 3,(HL) (0xCB 0xDE). -/
  | set3_AtHL
  /-- SET 3,A (0xCB 0xDF). -/
  | set3_A
  /-- SET 4,B (0xCB 0xE0). -/
  | set4_B
  /-- SET 4,C (0xCB 0xE1). -/
  | set4_C
  /-- SET 4,D (0xCB 0xE2). -/
  | set4_D
  /-- SET 4,E (0xCB 0xE3). -/
  | set4_E
  /-- SET 4,H (0xCB 0xE4). -/
  | set4_H
  /-- SET 4,L (0xCB 0xE5). -/
  | set4_L
  /-- SET 4,(HL) (0xCB 0xE6). -/
  | set4_AtHL
  /-- SET 4,A (0xCB 0xE7). -/
  | set4_A
  /-- SET 5,B (0xCB 0xE8). -/
  | set5_B
  /-- SET 5,C (0xCB 0xE9). -/
  | set5_C
  /-- SET 5,D (0xCB 0xEA). -/
  | set5_D
  /-- SET 5,E (0xCB 0xEB). -/
  | set5_E
  /-- SET 5,H (0xCB 0xEC). -/
  | set5_H
  /-- SET 5,L (0xCB 0xED). -/
  | set5_L
  /-- SET 5,(HL) (0xCB 0xEE). -/
  | set5_AtHL
  /-- SET 5,A (0xCB 0xEF). -/
  | set5_A
  /-- SET 6,B (0xCB 0xF0). -/
  | set6_B
  /-- SET 6,C (0xCB 0xF1). -/
  | set6_C
  /-- SET 6,D (0xCB 0xF2). -/
  | set6_D
  /-- SET 6,E (0xCB 0xF3). -/
  | set6_E
  /-- SET 6,H (0xCB 0xF4). -/
  | set6_H
  /-- SET 6,L (0xCB 0xF5). -/
  | set6_L
  /-- SET 6,(HL) (0xCB 0xF6). -/
  | set6_AtHL
  /-- SET 6,A (0xCB 0xF7). -/
  | set6_A
  /-- SET 7,B (0xCB 0xF8). -/
  | set7_B
  /-- SET 7,C (0xCB 0xF9). -/
  | set7_C
  /-- SET 7,D (0xCB 0xFA). -/
  | set7_D
  /-- SET 7,E (0xCB 0xFB). -/
  | set7_E
  /-- SET 7,H (0xCB 0xFC). -/
  | set7_H
  /-- SET 7,L (0xCB 0xFD). -/
  | set7_L
  /-- SET 7,(HL) (0xCB 0xFE). -/
  | set7_AtHL
  /-- SET 7,A (0xCB 0xFF). -/
  | set7_A
deriving DecidableEq, Repr

end Sys2Proof
end

