-- ==== Sys2Proof/Machine/Flags.lean ====
section
/-!
DEFINITION. Results and flags of every computation of the instruction set, on plain values (spec 42_alu8.md,
43_alu16.md, 44_rotate_shift.md, 45_bit.md). Each is computed exactly on natural numbers or integers and narrowed
once at the end.
-/

namespace Sys2Proof.Machine

/-- A byte result with the four flags. -/
structure Flagged where
  res : Byte
  z : Bool
  n : Bool
  h : Bool
  c : Bool
deriving DecidableEq, Repr

/-- `flags(z, n, h, c)` of R16: F = Z N H C 0 0 0 0 (R31). -/
def packFlags (z n h c : Bool) : Byte :=
  BitVec.ofNat 8 (z.toNat * 0x80 + n.toNat * 0x40 + h.toNat * 0x20 + c.toNat * 0x10)

/-- `Add8` (R251). -/
def add8 (a v : Byte) (ci : Bool) : Flagged :=
  let sum := a.toNat + v.toNat + ci.toNat
  let res := BitVec.ofNat 8 sum
  { res := res
    z := decide (res = 0)
    n := false
    h := decide (a.toNat % 16 + v.toNat % 16 + ci.toNat > 0xF)
    c := decide (sum > 0xFF) }

/-- `Sub8` (R252). -/
def sub8 (a v : Byte) (ci : Bool) : Flagged :=
  let diff : Int := (a.toNat : Int) - (v.toNat : Int) - (ci.toNat : Int)
  let res := BitVec.ofInt 8 diff
  { res := res
    z := decide (res = 0)
    n := true
    h := decide (((a.toNat % 16 : Nat) : Int) - ((v.toNat % 16 + ci.toNat : Nat) : Int) < 0)
    c := decide (diff < 0) }

/-- `And8` (R253). -/
def and8 (a v : Byte) : Flagged := { res := a &&& v, z := decide (a &&& v = 0), n := false, h := true, c := false }

/-- `Or8` (R253). -/
def or8 (a v : Byte) : Flagged := { res := a ||| v, z := decide (a ||| v = 0), n := false, h := false, c := false }

/-- `Xor8` (R253). -/
def xor8 (a v : Byte) : Flagged := { res := a ^^^ v, z := decide (a ^^^ v = 0), n := false, h := false, c := false }

/-- The accumulator operations on A = `a`, operand `v` and the old carry flag `ci`; ADD, SUB and CP take no carry in
(R254 to R277). CP's `res` is discarded by its meaning. -/
def aluResult (op : AluOp) (a v : Byte) (ci : Bool) : Flagged :=
  match op with
  | .add => add8 a v false
  | .adc => add8 a v ci
  | .sub => sub8 a v false
  | .sbc => sub8 a v ci
  | .and => and8 a v
  | .xor => xor8 a v
  | .or => or8 a v
  | .cp => sub8 a v false

/-- INC of a byte with the old carry flag kept (R278). -/
def inc8 (v : Byte) (ci : Bool) : Flagged :=
  let res := BitVec.ofNat 8 (v.toNat + 1)
  { res := res, z := decide (res = 0), n := false, h := decide (v.toNat % 16 + 1 > 0xF), c := ci }

/-- DEC of a byte with the old carry flag kept (R280). -/
def dec8 (v : Byte) (ci : Bool) : Flagged :=
  let res := BitVec.ofInt 8 ((v.toNat : Int) - 1)
  { res := res, z := decide (res = 0), n := true, h := decide (((v.toNat % 16 : Nat) : Int) - 1 < 0), c := ci }

/-- DAA on A = `a` with the flags N, H and C of the previous operation (R282). -/
def daa8 (a : Byte) (n h c : Bool) : Flagged :=
  let v : Int := (a.toNat : Int)
  let high := if n then c else c || decide (v > 0x99)
  let low := if n then h else h || decide (a.toNat % 16 > 9)
  let step : Int := (if high then 0x60 else 0) + (if low then 0x06 else 0)
  let res := BitVec.ofInt 8 (if n then v - step else v + step)
  { res := res, z := decide (res = 0), n := n, h := false, c := high }

/-- A word result with the half-carry and carry flags. -/
structure Flagged16 where
  res : Word
  h : Bool
  c : Bool
deriving DecidableEq, Repr

/-- The sum of ADD HL,rr: H out of bit 11, C out of bit 15 (R301). -/
def add16 (a v : Word) : Flagged16 :=
  let sum := a.toNat + v.toNat
  { res := BitVec.ofNat 16 sum
    h := decide (a.toNat % 0x1000 + v.toNat % 0x1000 > 0x0FFF)
    c := decide (sum > 0xFFFF) }

/-- `SpOffset` (R300): the signed sum, with H and C of the unsigned low-byte addition. -/
def spOffset (sp : Word) (b : Byte) : Flagged16 :=
  { res := sp + signExtend16 b
    h := decide (sp.toNat % 0x10 + b.toNat % 0x10 > 0xF)
    c := decide (sp.toNat % 0x100 + b.toNat > 0xFF) }

/-- A bit as a byte, in bit 0. -/
def bitByte (b : Bool) : Byte := BitVec.ofNat 8 b.toNat

/-- The eight byte functions of R310, from the byte and the old carry: the result and the new carry. -/
def rotate (k : RotKind) (v : Byte) (ci : Bool) : Byte × Bool :=
  match k with
  | .rlc => ((v <<< 1) ||| bitByte (v.getLsbD 7), v.getLsbD 7)
  | .rrc => ((v >>> 1) ||| (bitByte (v.getLsbD 0) <<< 7), v.getLsbD 0)
  | .rl => ((v <<< 1) ||| bitByte ci, v.getLsbD 7)
  | .rr => ((v >>> 1) ||| (bitByte ci <<< 7), v.getLsbD 0)
  | .sla => (v <<< 1, v.getLsbD 7)
  | .sra => ((v >>> 1) ||| (v &&& 0x80#8), v.getLsbD 0)
  | .swap => (((v &&& 0x0F#8) <<< 4) ||| (v >>> 4), false)
  | .srl => (v >>> 1, v.getLsbD 0)

/-- The number a three-bit field stands for (R154). -/
def indexNat : Index8 → Nat
  | .i0 => 0
  | .i1 => 1
  | .i2 => 2
  | .i3 => 3
  | .i4 => 4
  | .i5 => 5
  | .i6 => 6
  | .i7 => 7

/-- Bit `k` of `v` (R340). -/
def testBit (k : Index8) (v : Byte) : Bool := v.getLsbD (indexNat k)

/-- `v` with bit `k` cleared (R342). -/
def clearBit (k : Index8) (v : Byte) : Byte := v &&& ~~~(1#8 <<< indexNat k)

/-- `v` with bit `k` set (R344). -/
def setBit (k : Index8) (v : Byte) : Byte := v ||| (1#8 <<< indexNat k)

end Sys2Proof.Machine
end

