-- ==== Sys2Proof/Config.lean ====
section
/-!
DEFINITION. What is fixed when a cartridge and a boot image are attached (spec 00_scope.md R7, R8), and the free
values of the model: what the spec leaves to the environment under no law.
-/

namespace Sys2Proof

/-- The bank controller kinds (R7, R101). -/
inductive MbcKind where
  | none | mbc1 | mbc3 | mbc5
deriving DecidableEq, Repr

/-- The FAULT latch (R56, R430). -/
inductive FaultCode where
  | none | badCartType | badCartSize | noHandler
deriving DecidableEq, Repr

/-- The three boot image sizes of R8: none, 256 or 2304 bytes. -/
inductive BootSize where
  | absent | b256 | b2304
deriving DecidableEq, Repr

/-- The five peripherals behind the ports of R12. -/
inductive Peripheral where
  | joypad | serial | timer | audio | display
deriving DecidableEq, Repr

/-- PERIPH_PRESENT of R8: which of the five peripherals is attached. -/
structure Attached where
  joypad  : Bool
  serial  : Bool
  timer   : Bool
  audio   : Bool
  display : Bool
deriving DecidableEq, Repr

/-- The parameters of a session (R7, R8): constant from attach to the next attach.
`kind`, `nRom`, `nEram` and `attachFault` follow from the header bytes of `rom` (Machine/Cartridge.lean `attach`). -/
structure Params where
  /-- ROM[b][o], listed at index 16384 * b + o (R7, R46). -/
  rom         : Memory
  /-- BOOT[o] (R8). -/
  boot        : Memory
  /-- BOOT_SIZE (R8). -/
  bootSize    : BootSize
  /-- COLOR_MODE (R8). -/
  colorMode   : Bool
  /-- PERIPH_PRESENT (R8). -/
  attached    : Attached
  /-- ERAM_INIT (R7, R62), listed at index 8192 * bank + offset. -/
  eramInit    : Memory
  /-- INIT_MEM (R8, R61), the part for VRAM. -/
  initVram    : Memory
  /-- INIT_MEM, the part for WRAM. -/
  initWram    : Memory
  /-- INIT_MEM, the part for OAM. -/
  initOam     : Memory
  /-- INIT_MEM, the part for HRAM. -/
  initHram    : Memory
  /-- MBC_KIND (R7, R119). -/
  kind        : MbcKind
  /-- N_ROM (R7, R120). -/
  nRom        : Nat
  /-- N_ERAM (R7, R120). -/
  nEram       : Nat
  /-- What cartridge attach left in the FAULT latch (R118). -/
  attachFault : FaultCode
deriving DecidableEq, Repr

/-- The session `State.reset` stands for: a cartridge image of which nothing is listed, no boot image, no colour
mode, no peripheral. Its header bytes read 0x00, so it is kind NONE with two ROM banks and no external RAM
(R119, R120). DESIGN CHOICE: notes/assumptions/3.md. -/
def Params.standard : Params where
  rom := []
  boot := []
  bootSize := .absent
  colorMode := false
  attached := ⟨false, false, false, false, false⟩
  eramInit := []
  initVram := []
  initWram := []
  initOam := []
  initHram := []
  kind := .none
  nRom := 2
  nEram := 0
  attachFault := .none

/-- FREE VALUE (R12, R95, 93_implementation_defined.md U7): the byte a present peripheral answers to the n-th read
whose answer was not listed in `State.periphIn`. It has no body: nothing constrains it. notes/assumptions/5.md. -/
opaque Config.peripheralByte : Nat → BitVec 8

/-- FREE VALUE (R118): whether a cartridge with BOTH an unrecognised type byte and a rejected size code leaves
BAD_CART_TYPE (true) or BAD_CART_SIZE (false) in the FAULT latch. notes/assumptions/6.md. -/
opaque Config.typeFaultWins : Bool

end Sys2Proof
end

