-- ==== Sys2Proof/Machine/Memory.lean ====
section
/-!
DEFINITION. One physical memory array of the block (spec 10_state.md R46): a list of (index, byte) pairs in ONE
canonical form, indexes strictly rising and no entry equal to what an unlisted index reads as.
-/

namespace Sys2Proof.Memory

/-- What an unlisted index reads as. DESIGN CHOICE (the contents of RAM at reset are the argument INIT_MEM of R61,
given by listing them): notes/assumptions/2.md. -/
def unlisted : Byte := 0x00#8

/-- The byte at an index. -/
def read : Memory → Nat → Byte
  | [], _ => unlisted
  | (k, v) :: m, i => if k = i then v else read m i

/-- Store a byte at an index, keeping the canonical form. -/
def write : Memory → Nat → Byte → Memory
  | [], i, v => if v = unlisted then [] else [(i, v)]
  | (k, w) :: m, i, v =>
    if i < k then (if v = unlisted then (k, w) :: m else (i, v) :: (k, w) :: m)
    else if i = k then (if v = unlisted then m else (i, v) :: m)
    else (k, w) :: write m i v

/-- The canonical form of a list whose indexes start at `lo` or above. -/
def wfFrom : Nat → Memory → Bool
  | _, [] => true
  | lo, (k, v) :: m => decide (lo ≤ k) && v != unlisted && wfFrom (k + 1) m

/-- The canonical form: indexes strictly rising, no entry equal to what an unlisted index reads as. -/
def wf (m : Memory) : Bool := wfFrom 0 m

end Sys2Proof.Memory
end

