-- ==== Sys2Proof/Machine/Cartridge.lean ====
section
/-!
DEFINITION. Cartridge attach (spec 20_memory.md R118 to R120): the header bytes of ROM bank 0 give the bank
controller kind and the bank counts; and the bank mask of R102.
-/

namespace Sys2Proof.Machine

/-- The bytes of boot image shadowing ROM bank 0 (R8, R83). -/
def bootBytes : BootSize → Nat
  | .absent => 0
  | .b256 => 256
  | .b2304 => 2304

/-- Whether a peripheral is attached (R8). -/
def isAttached (p : Attached) : Peripheral → Bool
  | .joypad => p.joypad
  | .serial => p.serial
  | .timer => p.timer
  | .audio => p.audio
  | .display => p.display

/-- The cartridge-type codes of R119; every other value is unrecognised. -/
def kindOfType (t : Byte) : Option MbcKind :=
  match t.toNat with
  | 0x00 | 0x08 | 0x09 => some .none
  | 0x01 | 0x02 | 0x03 => some .mbc1
  | 0x11 | 0x12 | 0x13 => some .mbc3
  | 0x19 | 0x1A | 0x1B => some .mbc5
  | _ => none

/-- N_ROM from the ROM-size code (R120): 2 << c for c in 0x00 to 0x08. -/
def romBanksOfCode (c : Byte) : Option Nat :=
  if c.toNat ≤ 8 then some (2 * 2 ^ c.toNat) else none

/-- N_ERAM from the RAM-size code (R120). -/
def eramBanksOfCode (c : Byte) : Option Nat :=
  match c.toNat with
  | 0 => some 0
  | 1 => some 1
  | 2 => some 1
  | 3 => some 4
  | 4 => some 16
  | 5 => some 8
  | _ => none

/-- What attach leaves in the FAULT latch (R118), from whether the type byte and the size codes are recognised.
When both are bad the spec names no order: a free value decides (notes/assumptions/6.md). -/
def faultOfHeader (typeOk sizeOk : Bool) : FaultCode :=
  match typeOk, sizeOk with
  | true, true => .none
  | false, true => .badCartType
  | true, false => .badCartSize
  | false, false => if Config.typeFaultWins then .badCartType else .badCartSize

/-- Attach the images of `p`: the kind, the bank counts and the FAULT latch follow from the header bytes at
0x0147, 0x0148 and 0x0149 of ROM bank 0 (R118). After a fatal stop no step runs, so the kind and the counts
kept then are never read. -/
def attach (p : Params) : Params :=
  let kind := kindOfType (p.rom.read 0x0147)
  let nRom := romBanksOfCode (p.rom.read 0x0148)
  let nEram := eramBanksOfCode (p.rom.read 0x0149)
  { p with
    kind := kind.getD .none
    nRom := nRom.getD 2
    nEram := nEram.getD 0
    attachFault := faultOfHeader kind.isSome (nRom.isSome && nEram.isSome) }

/-- The least 2^k - 1 that is at least `n - 1`, found by doubling from `m` (R102). -/
def growMask : Nat → Nat → Nat → Nat
  | 0, m, _ => m
  | fuel + 1, m, n => if n ≤ m + 1 then m else growMask fuel (2 * m + 1) n

/-- `mask(n)` of R102: 2^k - 1 for the least k with 2^k >= n. -/
def bankMask (n : Nat) : Nat := growMask n 0 n

/-- A computed bank number masked to the banks that are present (R102). -/
def bankIndex (number count : Nat) : Nat := number &&& bankMask count

end Sys2Proof.Machine
end

