-- ==== Sys2Proof/Machine/State.lean ====
section
/-!
DEFINITION. The whole state of the block (spec 10_state.md R30 to R56), the ports of 00_scope.md R10 to R13 as
plain data, the ways a step stops, and the state after reset (R60 to R62, R450).
-/

namespace Sys2Proof.Machine

/-- The registers of an MBC1 (R52). -/
structure Mbc1 where
  ramEn  : Bool
  /-- BANK_LO, never 0. -/
  bankLo : BitVec 5
  bankHi : BitVec 2
  /-- MODE: false extends the ROM bank number by BANK_HI, true selects the RAM bank by it. -/
  mode   : Bool
deriving DecidableEq, Repr

/-- The registers of an MBC3 (R53). -/
structure Mbc3 where
  ramEn   : Bool
  /-- ROM_BANK, never 0. -/
  romBank : BitVec 7
  ramBank : BitVec 2
deriving DecidableEq, Repr

/-- The registers of an MBC5 (R54). -/
structure Mbc5 where
  ramEn     : Bool
  romBankLo : BitVec 8
  romBankHi : BitVec 1
  ramBank   : BitVec 4
deriving DecidableEq, Repr

/-- The one active bank controller with its registers (R51 to R54, R101). -/
inductive Mbc where
  | none
  | mbc1 (r : Mbc1)
  | mbc3 (r : Mbc3)
  | mbc5 (r : Mbc5)
deriving DecidableEq, Repr

/-- The `kind` of a `diag` event (R13). The spec leaves the kinds open: notes/assumptions/7.md. -/
inductive DiagKind where
  /-- A read of an address nothing claims (R87, R93, R95, R97). -/
  | unmappedRead
  /-- A write to an address nothing claims (R88, R93, R96, R97). -/
  | unmappedWrite
  /-- A ROM-range write under the NONE controller (R104). -/
  | romWrite
  /-- A bank-select write outside colour mode (R44, R45). -/
  | selectIgnored
deriving DecidableEq, Repr

/-- The event outputs of R13 and the peripheral port traffic of R12, in the order a step makes them. -/
inductive Event where
  /-- `save_req` (R112). -/
  | saveReq
  /-- `diag(kind, addr)`. -/
  | diag (kind : DiagKind) (addr : Word)
  /-- `stop_req` (R382). -/
  | stopReq
  /-- `readRegister_p(addr)` (R95). -/
  | periphRead (p : Peripheral) (addr : Word)
  /-- `writeRegister_p(addr, val)` (R96). -/
  | periphWrite (p : Peripheral) (addr : Word) (val : Byte)
deriving DecidableEq, Repr

/-- The state of the block, plain data. -/
@[ext]
structure State where
  /-- Accumulator (R30). -/
  a : Byte
  /-- Flags: Z, N, H, C in bits 7..4, bits 3..0 always zero (R31). -/
  f : Byte
  b : Byte
  c : Byte
  d : Byte
  e : Byte
  h : Byte
  l : Byte
  /-- Stack pointer (R36). -/
  sp : Word
  /-- Program counter (R37). -/
  pc : Word
  /-- Interrupt master enable (R39). -/
  ime : Bool
  /-- HALTED (R40). -/
  halted : Bool
  /-- IF, interrupt request, 0xFF0F (R41). -/
  ifReg : Byte
  /-- IE, interrupt enable, 0xFFFF (R42). -/
  ieReg : Byte
  /-- VRAM, index 8192 * bank + offset (R46). -/
  vram : Memory
  /-- ERAM, index 8192 * bank + offset (R46, R62). -/
  eram : Memory
  /-- WRAM, index 4096 * bank + offset (R46). -/
  wram : Memory
  /-- OAM (R46). -/
  oam : Memory
  /-- HRAM (R46). -/
  hram : Memory
  /-- BOOT_ACTIVE (R43, R50). -/
  bootActive : Bool
  /-- ROM1_SEL (R50). -/
  rom1Sel : Nat
  /-- ERAM_SEL (R50). -/
  eramSel : Nat
  /-- VRAM_SEL (R44, R50). -/
  vramSel : BitVec 1
  /-- WRAM_SEL, 1 to 7 (R45, R50). -/
  wramSel : BitVec 3
  /-- The bank-controller registers (R51 to R54). -/
  mbc : Mbc
  /-- FAULT (R56). -/
  faultLatch : FaultCode
  /-- The session's parameters: ROM, BOOT, sizes and modes (R7, R8); no step changes them. -/
  par : Params
  /-- Port input: the `irq_set` values still to come, one before each step (R11); an empty list presents nothing. -/
  irqIn : List (BitVec 5)
  /-- Port input: the answers of present peripherals still to come, one for each read (R12, R95). -/
  periphIn : List Byte
  /-- The model's own: how many peripheral reads were answered by the free value (notes/assumptions/5.md). -/
  periphCount : Nat
  /-- Port output: the events of the last step, oldest first (R12, R13). -/
  events : List Event
  /-- Port output: the cycle count of the last step (R10, R403); no rule reads it. -/
  cycles : Nat
deriving DecidableEq, Repr

/-- Why a step stops. Each is the fatal stop of R430, raised by `step` alone and before anything else, from the
FAULT latch. Safe: the spec runs no step there either. -/
inductive Fault where
  /-- FAULT = BAD_CART_TYPE: the header's type byte is unrecognised (R118, R119). Raised by `step`; safe. -/
  | badCartType
  /-- FAULT = BAD_CART_SIZE: a size code of the header is rejected (R118, R120). Raised by `step`; safe. -/
  | badCartSize
  /-- FAULT = NO_HANDLER: the latch holds it, or an opcode has no handler; the second cannot happen, the decoder is
  total (R431). Raised by `step`; safe. -/
  | noHandler
deriving DecidableEq, Repr

/-- Why an instruction has no meaning. -/
inductive Refusal where
  /-- Raised by `exec` for an instruction the model has not reached; no arm raises it. Safe. -/
  | notModelled (mnemonic : String)
deriving DecidableEq, Repr

/-- The outcome of one instruction or one step. -/
abbrev Result := Host.Outcome State Fault Refusal

/-- The bank controller registers at reset (R60). -/
def Mbc.reset : MbcKind → Mbc
  | .none => .none
  | .mbc1 => .mbc1 { ramEn := false, bankLo := 1, bankHi := 0, mode := false }
  | .mbc3 => .mbc3 { ramEn := false, romBank := 1, ramBank := 0 }
  | .mbc5 => .mbc5 { ramEn := false, romBankLo := 1, romBankHi := 0, ramBank := 0 }

/-- The state after reset with the parameters `p` attached (R60 to R62, R450); INIT_MEM and ERAM_INIT are `p`'s. -/
def State.resetWith (p : Params) : State where
  a := 0x00
  f := 0x00
  b := 0x00
  c := 0x00
  d := 0x00
  e := 0x00
  h := 0x00
  l := 0x00
  sp := 0x0000
  pc := 0x0000
  ime := false
  halted := false
  ifReg := 0x00
  ieReg := 0x00
  vram := p.initVram
  eram := p.eramInit
  wram := p.initWram
  oam := p.initOam
  hram := p.initHram
  bootActive := decide (p.bootSize ≠ .absent)
  rom1Sel := 1
  eramSel := 0
  vramSel := 0
  wramSel := 1
  mbc := Mbc.reset p.kind
  faultLatch := p.attachFault
  par := p
  irqIn := []
  periphIn := []
  periphCount := 0
  events := []
  cycles := 0

/-- The machine right after reset, with the standard parameters attached. -/
def State.reset : State := State.resetWith Params.standard

end Sys2Proof.Machine
end

