-- ==== Sys2Proof/Machine/Ops.lean ====
section
/-!
DEFINITION. The named operations over registers, the address space and the stack, the interrupt entry and the
return from it (spec 10_state.md, 20_memory.md, 60_exceptions.md). A read has two halves, the byte it gives
(`readByte`) and the state it leaves (`afterRead`): only the port fields of the state can differ after it.
-/

namespace Sys2Proof.Machine

/-! ## Registers -/

/-- `x[r]` (R16). -/
def State.reg (s : State) : Reg8 → Byte
  | .b => s.b
  | .c => s.c
  | .d => s.d
  | .e => s.e
  | .h => s.h
  | .l => s.l
  | .a => s.a

/-- `x[r] <- v` (R16, R33). -/
def State.setReg (s : State) (r : Reg8) (v : Byte) : State :=
  match r with
  | .b => { s with b := v }
  | .c => { s with c := v }
  | .d => { s with d := v }
  | .e => { s with e := v }
  | .h => { s with h := v }
  | .l => { s with l := v }
  | .a => { s with a := v }

/-- Every write of F stores its top nibble only (R35). -/
def State.setF (s : State) (v : Byte) : State := { s with f := v &&& 0xF0#8 }

/-- Set all four flags (R16). -/
def State.setFlags (s : State) (z n h c : Bool) : State := s.setF (packFlags z n h c)

/-- F.Z (R31). -/
def State.flagZ (s : State) : Bool := s.f.getLsbD 7

/-- F.N (R31). -/
def State.flagN (s : State) : Bool := s.f.getLsbD 6

/-- F.H (R31). -/
def State.flagH (s : State) : Bool := s.f.getLsbD 5

/-- F.C (R31). -/
def State.flagC (s : State) : Bool := s.f.getLsbD 4

/-- `xx[HL]` (R32). -/
def State.hl (s : State) : Word := joinBytes s.h s.l

/-- `xx[BC]` (R32). -/
def State.bc (s : State) : Word := joinBytes s.b s.c

/-- `xx[DE]` (R32). -/
def State.de (s : State) : Word := joinBytes s.d s.e

/-- `xx[HL] <- v` (R32). -/
def State.setHL (s : State) (v : Word) : State := { s with h := hiByte v, l := loByte v }

/-- `xx[rr]` of the 16-bit arithmetic and load forms (R32, R144). -/
def State.pair (s : State) : Reg16 → Word
  | .bc => s.bc
  | .de => s.de
  | .hl => s.hl
  | .sp => s.sp

/-- `xx[rr] <- v` (R32, R34). -/
def State.setPair (s : State) (r : Reg16) (v : Word) : State :=
  match r with
  | .bc => { s with b := hiByte v, c := loByte v }
  | .de => { s with d := hiByte v, e := loByte v }
  | .hl => s.setHL v
  | .sp => { s with sp := v }

/-- `xx[qq]` of PUSH (R32, R144). -/
def State.stk (s : State) : Stk16 → Word
  | .bc => s.bc
  | .de => s.de
  | .hl => s.hl
  | .af => joinBytes s.a s.f

/-- `xx[qq] <- v` of POP; the low byte of AF goes through the F mask (R32, R34, R35). -/
def State.setStk (s : State) (q : Stk16) (v : Word) : State :=
  match q with
  | .bc => { s with b := hiByte v, c := loByte v }
  | .de => { s with d := hiByte v, e := loByte v }
  | .hl => s.setHL v
  | .af => { s with a := hiByte v }.setF (loByte v)

/-! ## Port outputs -/

/-- The cycle count the step returns (R10, R403). -/
def State.report (s : State) (n : Nat) : State := { s with cycles := n }

/-- Append an event output of the running step (R13). -/
def State.emit (s : State) (e : Event) : State := { s with events := s.events ++ [e] }

/-- A `diag` event (R13). -/
def State.diag (s : State) (k : DiagKind) (a : Word) : State := s.emit (.diag k a)

/-! ## The address decoder -/

/-- The rows of the address map (R82) and of the register page (R94), with the offset inside the row. -/
inductive Region where
  | romLow (o : Nat)
  | romHigh (o : Nat)
  | vram (o : Nat)
  | eram (o : Nat)
  | wramLow (o : Nat)
  | wramHigh (o : Nat)
  | oam (o : Nat)
  | hram (o : Nat)
  | periph (p : Peripheral)
  | ifReg
  | ieReg
  | vramSelect
  | bootUnmap
  | wramSelect
  | unmapped
deriving DecidableEq, Repr

/-- The register page 0xFF00 to 0xFF7F, by full address (R94). -/
def registerPage (n : Nat) : Region :=
  if n = 0xFF00 then .periph .joypad
  else if n ≤ 0xFF02 then .periph .serial
  else if n = 0xFF03 then .unmapped
  else if n ≤ 0xFF07 then .periph .timer
  else if n ≤ 0xFF0E then .unmapped
  else if n = 0xFF0F then .ifReg
  else if n ≤ 0xFF3F then .periph .audio
  else if n ≤ 0xFF4B then .periph .display
  else if n = 0xFF4F then .vramSelect
  else if n = 0xFF50 then .bootUnmap
  else if n = 0xFF70 then .wramSelect
  else .unmapped

/-- The row of the map that holds an address (R82). 0xE000 to 0xFDFF is 0xC000 to 0xDDFF again (R91). -/
def region (a : Word) : Region :=
  let n := a.toNat
  if n < 0x4000 then .romLow n
  else if n < 0x8000 then .romHigh (n - 0x4000)
  else if n < 0xA000 then .vram (n - 0x8000)
  else if n < 0xC000 then .eram (n - 0xA000)
  else if n < 0xD000 then .wramLow (n - 0xC000)
  else if n < 0xE000 then .wramHigh (n - 0xD000)
  else if n < 0xF000 then .wramLow (n - 0xE000)
  else if n < 0xFE00 then .wramHigh (n - 0xF000)
  else if n < 0xFEA0 then .oam (n - 0xFE00)
  else if n < 0xFF00 then .unmapped
  else if n < 0xFF80 then registerPage n
  else if n < 0xFFFF then .hram (n - 0xFF80)
  else .ieReg

/-- The physical arrays of R46. -/
inductive Store where
  | rom | boot | vram | eram | wram | oam | hram
deriving DecidableEq, Repr

/-- ROM0_SEL, fixed at 0 (R50). -/
def State.rom0Sel (_ : State) : Nat := 0

/-- WRAM_LO_SEL, fixed at 0 (R50). -/
def State.wramLoSel (_ : State) : Nat := 0

/-- The cells of one physical array. -/
def State.array (s : State) : Store → Memory
  | .rom => s.par.rom
  | .boot => s.par.boot
  | .vram => s.vram
  | .eram => s.eram
  | .wram => s.wram
  | .oam => s.oam
  | .hram => s.hram

/-- One physical cell. -/
def State.cell (s : State) (x : Store × Nat) : Byte := (s.array x.1).read x.2

/-- The physical cell an address names under the Active Bank Mapping, if a physical array backs it
(R83 to R92, R98, R121). -/
def State.cellAt (s : State) (a : Word) : Option (Store × Nat) :=
  match region a with
  | .romLow o =>
    if s.bootActive && decide (o < bootBytes s.par.bootSize) then some (.boot, o)
    else some (.rom, 16384 * s.rom0Sel + o)
  | .romHigh o => some (.rom, 16384 * s.rom1Sel + o)
  | .vram o => some (.vram, 8192 * s.vramSel.toNat + o)
  | .eram o => if s.par.nEram = 0 then none else some (.eram, 8192 * s.eramSel + o)
  | .wramLow o => some (.wram, 4096 * s.wramLoSel + o)
  | .wramHigh o => some (.wram, 4096 * s.wramSel.toNat + o)
  | .oam o => some (.oam, o)
  | .hram o => some (.hram, o)
  | .periph _ | .ifReg | .ieReg | .vramSelect | .bootUnmap | .wramSelect | .unmapped => none

/-- The open-bus value (R18, R93, R97). -/
def openBus : Byte := 0xFF#8

/-- The answer of a present peripheral to the next read: the next listed one, else a free value (R12, R95). -/
def State.nextAnswer (s : State) : Byte :=
  match s.periphIn with
  | v :: _ => v
  | [] => Config.peripheralByte s.periphCount

/-- That answer is used up: no two reads share one (93_implementation_defined.md U7). -/
def State.dropAnswer (s : State) : State :=
  match s.periphIn with
  | _ :: rest => { s with periphIn := rest }
  | [] => { s with periphCount := s.periphCount + 1 }

/-- The byte `MemRead(a, 1)` returns (R80). -/
def State.readByte (s : State) (a : Word) : Byte :=
  match s.cellAt a with
  | some x => s.cell x
  | none =>
    match region a with
    | .ifReg => s.ifReg
    | .ieReg => s.ieReg
    | .periph p => if isAttached s.par.attached p then s.nextAnswer else openBus
    | .romLow _ | .romHigh _ | .vram _ | .eram _ | .wramLow _ | .wramHigh _ | .oam _ | .hram _
    | .vramSelect | .bootUnmap | .wramSelect | .unmapped => openBus

/-- The state `MemRead(a, 1)` leaves: a read forwarded to a present peripheral uses up an answer, a read of an
unmapped address is a `diag` event, any other read leaves everything (R79, R80, R87, R93, R95, R97). -/
def State.afterRead (s : State) (a : Word) : State :=
  match region a with
  | .eram _ => if s.par.nEram = 0 then s.diag .unmappedRead a else s
  | .periph p =>
    if isAttached s.par.attached p then s.dropAnswer.emit (.periphRead p a) else s.diag .unmappedRead a
  | .unmapped => s.diag .unmappedRead a
  | .romLow _ | .romHigh _ | .vram _ | .wramLow _ | .wramHigh _ | .oam _ | .hram _
  | .ifReg | .ieReg | .vramSelect | .bootUnmap | .wramSelect => s

/-! ## Bank controllers -/

/-- RAM_EN; the NONE controller is always enabled (R51, R88). -/
def ramEnabled : Mbc → Bool
  | .none => true
  | .mbc1 r => r.ramEn
  | .mbc3 r => r.ramEn
  | .mbc5 r => r.ramEn

/-- The RAM-enable test of R103. -/
def enableValue (v : Byte) : Bool := decide (v &&& 0x0F#8 = 0x0A#8)

/-- `save_req` when RAM_EN goes from 1 to 0 (R105, R112). -/
def State.saveOnDisable (s : State) (old new : Bool) : State := if old && !new then s.emit .saveReq else s

/-- ERAM_SEL from a bank number: 0 when there is no external RAM (R109 to R111). -/
def State.eramIndex (s : State) (number : Nat) : Nat := if s.par.nEram = 0 then 0 else bankIndex number s.par.nEram

/-- Store MBC1 registers and recompute the mapping (R109). -/
def State.remap1 (s : State) (r : Mbc1) : State :=
  if r.mode then
    { s with
      mbc := .mbc1 r
      rom1Sel := bankIndex r.bankLo.toNat s.par.nRom
      eramSel := s.eramIndex r.bankHi.toNat }
  else
    { s with
      mbc := .mbc1 r
      rom1Sel := bankIndex (32 * r.bankHi.toNat + r.bankLo.toNat) s.par.nRom
      eramSel := 0 }

/-- A bank number whose value 0 is an alias of 1 (R106, R110). -/
def aliasZero {w : Nat} (v : BitVec w) : BitVec w := if v = 0 then 1 else v

/-- A ROM-range write under MBC1, by the top nibble of the address (R105 to R108). -/
def State.write1 (s : State) (r : Mbc1) (nibble : Nat) (v : Byte) : State :=
  if nibble ≤ 1 then
    { s with mbc := .mbc1 { r with ramEn := enableValue v } }.saveOnDisable r.ramEn (enableValue v)
  else if nibble ≤ 3 then s.remap1 { r with bankLo := aliasZero (v.extractLsb' 0 5) }
  else if nibble ≤ 5 then s.remap1 { r with bankHi := v.extractLsb' 0 2 }
  else s.remap1 { r with mode := v.getLsbD 0 }

/-- A ROM-range write under MBC3 (R110). -/
def State.write3 (s : State) (r : Mbc3) (nibble : Nat) (v : Byte) : State :=
  if nibble ≤ 1 then
    { s with mbc := .mbc3 { r with ramEn := enableValue v } }.saveOnDisable r.ramEn (enableValue v)
  else if nibble ≤ 3 then
    let bank := aliasZero (v.extractLsb' 0 7)
    { s with mbc := .mbc3 { r with romBank := bank }, rom1Sel := bankIndex bank.toNat s.par.nRom }
  else if nibble ≤ 5 then
    let bank := v.extractLsb' 0 2
    { s with mbc := .mbc3 { r with ramBank := bank }, eramSel := s.eramIndex bank.toNat }
  else s

/-- Store MBC5 registers and recompute ROM1_SEL (R111). -/
def State.remap5 (s : State) (r : Mbc5) : State :=
  { s with
    mbc := .mbc5 r
    rom1Sel := bankIndex (256 * r.romBankHi.toNat + r.romBankLo.toNat) s.par.nRom }

/-- A ROM-range write under MBC5 (R111). -/
def State.write5 (s : State) (r : Mbc5) (nibble : Nat) (v : Byte) : State :=
  if nibble ≤ 1 then
    { s with mbc := .mbc5 { r with ramEn := enableValue v } }.saveOnDisable r.ramEn (enableValue v)
  else if nibble = 2 then s.remap5 { r with romBankLo := v }
  else if nibble = 3 then s.remap5 { r with romBankHi := v.extractLsb' 0 1 }
  else if nibble ≤ 5 then
    let bank := v.extractLsb' 0 4
    { s with mbc := .mbc5 { r with ramBank := bank }, eramSel := s.eramIndex bank.toNat }
  else s

/-- `romWrite(a, v)` of the active controller (R100, R101, R103, R104); no ROM or boot byte changes. -/
def State.romWrite (s : State) (a : Word) (v : Byte) : State :=
  match s.mbc with
  | .none => s.diag .romWrite a
  | .mbc1 r => s.write1 r (a.toNat / 0x1000) v
  | .mbc3 r => s.write3 r (a.toNat / 0x1000) v
  | .mbc5 r => s.write5 r (a.toNat / 0x1000) v

/-! ## Writes -/

/-- Store a byte in a physical cell; ROM and BOOT are read-only (R46). -/
def State.setCell (s : State) (x : Store × Nat) (v : Byte) : State :=
  match x.1 with
  | .rom => s
  | .boot => s
  | .vram => { s with vram := s.vram.write x.2 v }
  | .eram => { s with eram := s.eram.write x.2 v }
  | .wram => { s with wram := s.wram.write x.2 v }
  | .oam => { s with oam := s.oam.write x.2 v }
  | .hram => { s with hram := s.hram.write x.2 v }

/-- Store a byte in the physical cell an address names. -/
def State.storeAt (s : State) (a : Word) (v : Byte) : State :=
  match s.cellAt a with
  | some x => s.setCell x v
  | none => s

/-- `MemWrite(a, 1, v)` (R81): the write rule of the map's row. -/
def State.writeByte (s : State) (a : Word) (v : Byte) : State :=
  match region a with
  | .romLow _ | .romHigh _ => s.romWrite a v
  | .eram _ =>
    if s.par.nEram = 0 then s.diag .unmappedWrite a else if ramEnabled s.mbc then s.storeAt a v else s
  | .vram _ | .wramLow _ | .wramHigh _ | .oam _ | .hram _ => s.storeAt a v
  | .periph p =>
    if isAttached s.par.attached p then s.emit (.periphWrite p a v) else s.diag .unmappedWrite a
  | .ifReg => { s with ifReg := v }
  | .ieReg => { s with ieReg := v }
  | .vramSelect =>
    if s.par.colorMode then { s with vramSel := v.extractLsb' 0 1 } else s.diag .selectIgnored a
  | .bootUnmap => { s with bootActive := false }
  | .wramSelect =>
    if s.par.colorMode then { s with wramSel := aliasZero (v.extractLsb' 0 3) } else s.diag .selectIgnored a
  | .unmapped => s.diag .unmappedWrite a

/-! ## Words and the stack -/

/-- The word `MemRead(a, 2)` returns: low byte first, at the lower address (R75). -/
def State.readWord (s : State) (a : Word) : Word :=
  joinBytes ((s.afterRead a).readByte (a + 1)) (s.readByte a)

/-- The state `MemRead(a, 2)` leaves (R75). -/
def State.afterReadWord (s : State) (a : Word) : State := (s.afterRead a).afterRead (a + 1)

/-- `MemWrite(a, 2, v)`: low byte first, at the lower address (R76). -/
def State.writeWord (s : State) (a : Word) (v : Word) : State :=
  (s.writeByte a (loByte v)).writeByte (a + 1) (hiByte v)

/-- `Push16(v)`: SP decremented by 2 first (R350). -/
def State.push (s : State) (v : Word) : State := { s with sp := s.sp - 2 }.writeWord (s.sp - 2) v

/-- The word `Pop16()` returns (R350). -/
def State.popValue (s : State) : Word := s.readWord s.sp

/-- The state `Pop16()` leaves (R350). -/
def State.afterPop (s : State) : State := { s.afterReadWord s.sp with sp := s.sp + 2 }

/-! ## Interrupts -/

/-- The environment presents the next `irq_set`, if any, ORed into IF (R11). -/
def State.presentRequests (s : State) : State :=
  match s.irqIn with
  | r :: rest => { s with ifReg := s.ifReg ||| r.setWidth 8, irqIn := rest }
  | [] => s

/-- `IE & IF & 0x1F` (R400, R401). -/
def State.pending (s : State) : Byte := s.ieReg &&& s.ifReg &&& 0x1F#8

/-- The least i in 0..4 whose bit is set in a pending value (R411). -/
def leastSource (p : Byte) : Nat :=
  if p.getLsbD 0 then 0
  else if p.getLsbD 1 then 1
  else if p.getLsbD 2 then 2
  else if p.getLsbD 3 then 3
  else 4

/-- The vector of source i (R410). -/
def vectorOf (i : Nat) : Word := BitVec.ofNat 16 (0x0040 + 8 * i)

/-- TAKING AN INTERRUPT: the entry sequence of R412, in its order, for source `i`. It saves PC on the stack and
nothing else. -/
def State.serviceInterrupt (s : State) (i : Nat) : State :=
  let entered := { s with halted := false, ime := false, ifReg := s.ifReg &&& ~~~(1#8 <<< i) }
  let pushed := entered.push s.pc
  { pushed with pc := vectorOf i }.report 16

/-- RETURNING FROM IT: the effect of RETI on the state (R360, R413). -/
def State.returnFromInterrupt (s : State) : State := { s.afterPop with pc := s.popValue, ime := true }

end Sys2Proof.Machine
end

