-- ==== Sys2Proof/Machine/Operands.lean ====
section
/-!
DEFINITION. Every operand form of the instruction set (spec 30_encoding.md R143 to R146, 42_alu8.md R250, 46_control.md
R350): the value it reads, the state the read leaves, and where it writes.
-/

namespace Sys2Proof.Machine

/-- The value of a register code's operand: a register, or the byte at HL (R143). -/
def State.locValue (s : State) : Loc8 → Byte
  | .reg r => s.reg r
  | .atHL => s.readByte s.hl

/-- The state reading it leaves. -/
def State.afterLoc (s : State) : Loc8 → State
  | .reg _ => s
  | .atHL => s.afterRead s.hl

/-- Write a register code's operand: a register, or the byte at HL (R143). -/
def State.setLoc (s : State) (x : Loc8) (v : Byte) : State :=
  match x with
  | .reg r => s.setReg r v
  | .atHL => s.writeByte s.hl v

/-- `Src8` of R250: the value of an accumulator operation's operand. -/
def State.srcValue (s : State) : Src8 → Byte
  | .reg r => s.reg r
  | .atHL => s.readByte s.hl
  | .imm n => n

/-- The state reading it leaves. -/
def State.afterSrc (s : State) : Src8 → State
  | .reg _ => s
  | .atHL => s.afterRead s.hl
  | .imm _ => s

/-- `Cond(cc)` (R350). -/
def State.cond (s : State) : Cond → Bool
  | .nz => !s.flagZ
  | .z => s.flagZ
  | .nc => !s.flagC
  | .c => s.flagC

/-- A relative jump target, from PC past the displacement (R146, R354). -/
def State.relTarget (s : State) (d : Byte) : Word := s.pc + signExtend16 d

/-- The restart target `8 * y` (R154, R361). -/
def restartTarget (y : Index8) : Word := BitVec.ofNat 16 (8 * indexNat y)

end Sys2Proof.Machine
end

