-- ==== Sys2Proof/Machine/Alu16.lean ====
section
/-!
DEFINITION. 16-bit arithmetic (spec 43_alu16.md R300 to R304).
-/

namespace Sys2Proof.Machine

/-- ADD HL,rr: Z is kept (R301). -/
def addHL (p : Reg16) (s : State) : Result :=
  let r := add16 s.hl (s.pair p)
  .next (((s.setHL r.res).setFlags s.flagZ false r.h r.c).report 8)

/-- INC rr (R302). -/
def incPair (p : Reg16) (s : State) : Result := .next ((s.setPair p (s.pair p + 1)).report 8)

/-- DEC rr (R303). -/
def decPair (p : Reg16) (s : State) : Result := .next ((s.setPair p (s.pair p - 1)).report 8)

/-- ADD SP,r8 (R304). -/
def addSP (d : Byte) (s : State) : Result :=
  let r := spOffset s.sp d
  .next (({ s with sp := r.res }.setFlags false false r.h r.c).report 16)

/-- INC BC (0x03): R302. -/
def execIncBC (s : State) : Result := incPair .bc s

/-- ADD HL,BC (0x09): R301. -/
def execAddHL_BC (s : State) : Result := addHL .bc s

/-- DEC BC (0x0B): R303. -/
def execDecBC (s : State) : Result := decPair .bc s

/-- INC DE (0x13): R302. -/
def execIncDE (s : State) : Result := incPair .de s

/-- ADD HL,DE (0x19): R301. -/
def execAddHL_DE (s : State) : Result := addHL .de s

/-- DEC DE (0x1B): R303. -/
def execDecDE (s : State) : Result := decPair .de s

/-- INC HL (0x23): R302. -/
def execIncHL (s : State) : Result := incPair .hl s

/-- ADD HL,HL (0x29): R301. -/
def execAddHL_HL (s : State) : Result := addHL .hl s

/-- DEC HL (0x2B): R303. -/
def execDecHL (s : State) : Result := decPair .hl s

/-- INC SP (0x33): R302. -/
def execIncSP (s : State) : Result := incPair .sp s

/-- ADD HL,SP (0x39): R301. -/
def execAddHL_SP (s : State) : Result := addHL .sp s

/-- DEC SP (0x3B): R303. -/
def execDecSP (s : State) : Result := decPair .sp s

/-- ADD SP,r8 (0xE8): R304. -/
def execAddSP_r8 (d : Byte) (s : State) : Result := addSP d s

end Sys2Proof.Machine
end

