-- ==== Sys2Proof/Machine/Load8.lean ====
section
/-!
DEFINITION. 8-bit loads (spec 40_load8.md R200 to R218). No load here writes F.
-/

namespace Sys2Proof.Machine

/-- The cycle count of an operand form: 4 for a register, 8 for (HL) or an immediate (R250, R471). -/
def srcCycles : Src8 → Nat
  | .reg _ => 4
  | .atHL => 8
  | .imm _ => 8

/-- LD r,x: register, (HL) or immediate to register (R200 to R202). -/
def ldReg (dst : Reg8) (x : Src8) (s : State) : Result :=
  .next (((s.afterSrc x).setReg dst (s.srcValue x)).report (srcCycles x))

/-- Store a byte at an address (R203, R204, R207, R208, R210, R212, R214). -/
def store (a : Word) (v : Byte) (n : Nat) (s : State) : Result := .next ((s.writeByte a v).report n)

/-- Load A from an address (R205, R206, R209, R211, R213). -/
def loadA (a : Word) (n : Nat) (s : State) : Result :=
  .next ({ s.afterRead a with a := s.readByte a }.report n)

/-- LD (HL+),A and LD (HL-),A: store, then step HL (R215, R217). -/
def storeAStep (k : Word) (s : State) : Result := .next (((s.writeByte s.hl s.a).setHL (s.hl + k)).report 8)

/-- LD A,(HL+) and LD A,(HL-): load, then step HL (R216, R218). -/
def loadAStep (k : Word) (s : State) : Result :=
  .next (({ s.afterRead s.hl with a := s.readByte s.hl }.setHL (s.hl + k)).report 8)

/-- LD (BC),A (0x02): R207. -/
def execLdAtBC_A (s : State) : Result := store s.bc s.a 8 s

/-- LD B,d8 (0x06): R201. -/
def execLdB_d8 (n : Byte) (s : State) : Result := ldReg .b (.imm n) s

/-- LD A,(BC) (0x0A): R205. -/
def execLdA_AtBC (s : State) : Result := loadA s.bc 8 s

/-- LD C,d8 (0x0E): R201. -/
def execLdC_d8 (n : Byte) (s : State) : Result := ldReg .c (.imm n) s

/-- LD (DE),A (0x12): R208. -/
def execLdAtDE_A (s : State) : Result := store s.de s.a 8 s

/-- LD D,d8 (0x16): R201. -/
def execLdD_d8 (n : Byte) (s : State) : Result := ldReg .d (.imm n) s

/-- LD A,(DE) (0x1A): R206. -/
def execLdA_AtDE (s : State) : Result := loadA s.de 8 s

/-- LD E,d8 (0x1E): R201. -/
def execLdE_d8 (n : Byte) (s : State) : Result := ldReg .e (.imm n) s

/-- LD (HL+),A (0x22): R215. -/
def execLdAtHLInc_A (s : State) : Result := storeAStep 1 s

/-- LD H,d8 (0x26): R201. -/
def execLdH_d8 (n : Byte) (s : State) : Result := ldReg .h (.imm n) s

/-- LD A,(HL+) (0x2A): R216. -/
def execLdA_AtHLInc (s : State) : Result := loadAStep 1 s

/-- LD L,d8 (0x2E): R201. -/
def execLdL_d8 (n : Byte) (s : State) : Result := ldReg .l (.imm n) s

/-- LD (HL-),A (0x32): R217. -/
def execLdAtHLDec_A (s : State) : Result := storeAStep (-1) s

/-- LD (HL),d8 (0x36): R204. -/
def execLdAtHL_d8 (n : Byte) (s : State) : Result := store s.hl n 12 s

/-- LD A,(HL-) (0x3A): R218. -/
def execLdA_AtHLDec (s : State) : Result := loadAStep (-1) s

/-- LD A,d8 (0x3E): R201. -/
def execLdA_d8 (n : Byte) (s : State) : Result := ldReg .a (.imm n) s

/-- LD B,B (0x40): R200. -/
def execLdB_B (s : State) : Result := ldReg .b (.reg .b) s

/-- LD B,C (0x41): R200. -/
def execLdB_C (s : State) : Result := ldReg .b (.reg .c) s

/-- LD B,D (0x42): R200. -/
def execLdB_D (s : State) : Result := ldReg .b (.reg .d) s

/-- LD B,E (0x43): R200. -/
def execLdB_E (s : State) : Result := ldReg .b (.reg .e) s

/-- LD B,H (0x44): R200. -/
def execLdB_H (s : State) : Result := ldReg .b (.reg .h) s

/-- LD B,L (0x45): R200. -/
def execLdB_L (s : State) : Result := ldReg .b (.reg .l) s

/-- LD B,(HL) (0x46): R202. -/
def execLdB_AtHL (s : State) : Result := ldReg .b .atHL s

/-- LD B,A (0x47): R200. -/
def execLdB_A (s : State) : Result := ldReg .b (.reg .a) s

/-- LD C,B (0x48): R200. -/
def execLdC_B (s : State) : Result := ldReg .c (.reg .b) s

/-- LD C,C (0x49): R200. -/
def execLdC_C (s : State) : Result := ldReg .c (.reg .c) s

/-- LD C,D (0x4A): R200. -/
def execLdC_D (s : State) : Result := ldReg .c (.reg .d) s

/-- LD C,E (0x4B): R200. -/
def execLdC_E (s : State) : Result := ldReg .c (.reg .e) s

/-- LD C,H (0x4C): R200. -/
def execLdC_H (s : State) : Result := ldReg .c (.reg .h) s

/-- LD C,L (0x4D): R200. -/
def execLdC_L (s : State) : Result := ldReg .c (.reg .l) s

/-- LD C,(HL) (0x4E): R202. -/
def execLdC_AtHL (s : State) : Result := ldReg .c .atHL s

/-- LD C,A (0x4F): R200. -/
def execLdC_A (s : State) : Result := ldReg .c (.reg .a) s

/-- LD D,B (0x50): R200. -/
def execLdD_B (s : State) : Result := ldReg .d (.reg .b) s

/-- LD D,C (0x51): R200. -/
def execLdD_C (s : State) : Result := ldReg .d (.reg .c) s

/-- LD D,D (0x52): R200. -/
def execLdD_D (s : State) : Result := ldReg .d (.reg .d) s

/-- LD D,E (0x53): R200. -/
def execLdD_E (s : State) : Result := ldReg .d (.reg .e) s

/-- LD D,H (0x54): R200. -/
def execLdD_H (s : State) : Result := ldReg .d (.reg .h) s

/-- LD D,L (0x55): R200. -/
def execLdD_L (s : State) : Result := ldReg .d (.reg .l) s

/-- LD D,(HL) (0x56): R202. -/
def execLdD_AtHL (s : State) : Result := ldReg .d .atHL s

/-- LD D,A (0x57): R200. -/
def execLdD_A (s : State) : Result := ldReg .d (.reg .a) s

/-- LD E,B (0x58): R200. -/
def execLdE_B (s : State) : Result := ldReg .e (.reg .b) s

/-- LD E,C (0x59): R200. -/
def execLdE_C (s : State) : Result := ldReg .e (.reg .c) s

/-- LD E,D (0x5A): R200. -/
def execLdE_D (s : State) : Result := ldReg .e (.reg .d) s

/-- LD E,E (0x5B): R200. -/
def execLdE_E (s : State) : Result := ldReg .e (.reg .e) s

/-- LD E,H (0x5C): R200. -/
def execLdE_H (s : State) : Result := ldReg .e (.reg .h) s

/-- LD E,L (0x5D): R200. -/
def execLdE_L (s : State) : Result := ldReg .e (.reg .l) s

/-- LD E,(HL) (0x5E): R202. -/
def execLdE_AtHL (s : State) : Result := ldReg .e .atHL s

/-- LD E,A (0x5F): R200. -/
def execLdE_A (s : State) : Result := ldReg .e (.reg .a) s

/-- LD H,B (0x60): R200. -/
def execLdH_B (s : State) : Result := ldReg .h (.reg .b) s

/-- LD H,C (0x61): R200. -/
def execLdH_C (s : State) : Result := ldReg .h (.reg .c) s

/-- LD H,D (0x62): R200. -/
def execLdH_D (s : State) : Result := ldReg .h (.reg .d) s

/-- LD H,E (0x63): R200. -/
def execLdH_E (s : State) : Result := ldReg .h (.reg .e) s

/-- LD H,H (0x64): R200. -/
def execLdH_H (s : State) : Result := ldReg .h (.reg .h) s

/-- LD H,L (0x65): R200. -/
def execLdH_L (s : State) : Result := ldReg .h (.reg .l) s

/-- LD H,(HL) (0x66): R202. -/
def execLdH_AtHL (s : State) : Result := ldReg .h .atHL s

/-- LD H,A (0x67): R200. -/
def execLdH_A (s : State) : Result := ldReg .h (.reg .a) s

/-- LD L,B (0x68): R200. -/
def execLdL_B (s : State) : Result := ldReg .l (.reg .b) s

/-- LD L,C (0x69): R200. -/
def execLdL_C (s : State) : Result := ldReg .l (.reg .c) s

/-- LD L,D (0x6A): R200. -/
def execLdL_D (s : State) : Result := ldReg .l (.reg .d) s

/-- LD L,E (0x6B): R200. -/
def execLdL_E (s : State) : Result := ldReg .l (.reg .e) s

/-- LD L,H (0x6C): R200. -/
def execLdL_H (s : State) : Result := ldReg .l (.reg .h) s

/-- LD L,L (0x6D): R200. -/
def execLdL_L (s : State) : Result := ldReg .l (.reg .l) s

/-- LD L,(HL) (0x6E): R202. -/
def execLdL_AtHL (s : State) : Result := ldReg .l .atHL s

/-- LD L,A (0x6F): R200. -/
def execLdL_A (s : State) : Result := ldReg .l (.reg .a) s

/-- LD (HL),B (0x70): R203. -/
def execLdAtHL_B (s : State) : Result := store s.hl s.b 8 s

/-- LD (HL),C (0x71): R203. -/
def execLdAtHL_C (s : State) : Result := store s.hl s.c 8 s

/-- LD (HL),D (0x72): R203. -/
def execLdAtHL_D (s : State) : Result := store s.hl s.d 8 s

/-- LD (HL),E (0x73): R203. -/
def execLdAtHL_E (s : State) : Result := store s.hl s.e 8 s

/-- LD (HL),H (0x74): R203. -/
def execLdAtHL_H (s : State) : Result := store s.hl s.h 8 s

/-- LD (HL),L (0x75): R203. -/
def execLdAtHL_L (s : State) : Result := store s.hl s.l 8 s

/-- LD (HL),A (0x77): R203. -/
def execLdAtHL_A (s : State) : Result := store s.hl s.a 8 s

/-- LD A,B (0x78): R200. -/
def execLdA_B (s : State) : Result := ldReg .a (.reg .b) s

/-- LD A,C (0x79): R200. -/
def execLdA_C (s : State) : Result := ldReg .a (.reg .c) s

/-- LD A,D (0x7A): R200. -/
def execLdA_D (s : State) : Result := ldReg .a (.reg .d) s

/-- LD A,E (0x7B): R200. -/
def execLdA_E (s : State) : Result := ldReg .a (.reg .e) s

/-- LD A,H (0x7C): R200. -/
def execLdA_H (s : State) : Result := ldReg .a (.reg .h) s

/-- LD A,L (0x7D): R200. -/
def execLdA_L (s : State) : Result := ldReg .a (.reg .l) s

/-- LD A,(HL) (0x7E): R202. -/
def execLdA_AtHL (s : State) : Result := ldReg .a .atHL s

/-- LD A,A (0x7F): R200. -/
def execLdA_A (s : State) : Result := ldReg .a (.reg .a) s

/-- LDH (a8),A (0xE0): R212. -/
def execLdhAtA8_A (o : Byte) (s : State) : Result := store (highPage o) s.a 12 s

/-- LD (C),A (0xE2): R214. -/
def execLdAtC_A (s : State) : Result := store (highPage s.c) s.a 8 s

/-- LD (a16),A (0xEA): R210. -/
def execLdAtA16_A (nn : Word) (s : State) : Result := store nn s.a 16 s

/-- LDH A,(a8) (0xF0): R211. -/
def execLdhA_AtA8 (o : Byte) (s : State) : Result := loadA (highPage o) 12 s

/-- LD A,(C) (0xF2): R213. -/
def execLdA_AtC (s : State) : Result := loadA (highPage s.c) 8 s

/-- LD A,(a16) (0xFA): R209. -/
def execLdA_AtA16 (nn : Word) (s : State) : Result := loadA nn 16 s

end Sys2Proof.Machine
end

