-- ==== Sys2Proof/Machine/Alu8.lean ====
section
/-!
DEFINITION. 8-bit arithmetic and logic (spec 42_alu8.md R250 to R286).
-/

namespace Sys2Proof.Machine

/-- Set the four flags a computation gives. -/
def State.withFlagsOf (s : State) (r : Flagged) : State := s.setFlags r.z r.n r.h r.c

/-- An accumulator operation on an operand; CP discards the result (R254 to R277). -/
def alu (op : AluOp) (x : Src8) (s : State) : Result :=
  let r := aluResult op s.a (s.srcValue x) s.flagC
  let t := s.afterSrc x
  let t := if op = .cp then t else { t with a := r.res }
  .next ((t.withFlagsOf r).report (srcCycles x))

/-- The cycle count of INC and DEC of a byte: 4 for a register, 12 for (HL) (R471). -/
def stepCycles : Loc8 → Nat
  | .reg _ => 4
  | .atHL => 12

/-- INC r; INC (HL) (R278, R279). -/
def incLoc (x : Loc8) (s : State) : Result :=
  let r := inc8 (s.locValue x) s.flagC
  .next ((((s.afterLoc x).setLoc x r.res).withFlagsOf r).report (stepCycles x))

/-- DEC r; DEC (HL) (R280, R281). -/
def decLoc (x : Loc8) (s : State) : Result :=
  let r := dec8 (s.locValue x) s.flagC
  .next ((((s.afterLoc x).setLoc x r.res).withFlagsOf r).report (stepCycles x))

/-- DAA (R282). -/
def adjust (s : State) : Result :=
  let r := daa8 s.a s.flagN s.flagH s.flagC
  .next (({ s with a := r.res }.withFlagsOf r).report 4)

/-- INC B (0x04): R278. -/
def execIncB (s : State) : Result := incLoc (.reg .b) s

/-- DEC B (0x05): R280. -/
def execDecB (s : State) : Result := decLoc (.reg .b) s

/-- INC C (0x0C): R278. -/
def execIncC (s : State) : Result := incLoc (.reg .c) s

/-- DEC C (0x0D): R280. -/
def execDecC (s : State) : Result := decLoc (.reg .c) s

/-- INC D (0x14): R278. -/
def execIncD (s : State) : Result := incLoc (.reg .d) s

/-- DEC D (0x15): R280. -/
def execDecD (s : State) : Result := decLoc (.reg .d) s

/-- INC E (0x1C): R278. -/
def execIncE (s : State) : Result := incLoc (.reg .e) s

/-- DEC E (0x1D): R280. -/
def execDecE (s : State) : Result := decLoc (.reg .e) s

/-- INC H (0x24): R278. -/
def execIncH (s : State) : Result := incLoc (.reg .h) s

/-- DEC H (0x25): R280. -/
def execDecH (s : State) : Result := decLoc (.reg .h) s

/-- DAA (0x27): R282. -/
def execDaa (s : State) : Result := adjust s

/-- INC L (0x2C): R278. -/
def execIncL (s : State) : Result := incLoc (.reg .l) s

/-- DEC L (0x2D): R280. -/
def execDecL (s : State) : Result := decLoc (.reg .l) s

/-- CPL (0x2F): R283. -/
def execCpl (s : State) : Result := .next (({ s with a := s.a ^^^ 0xFF#8 }.setFlags s.flagZ true true s.flagC).report 4)

/-- INC (HL) (0x34): R279. -/
def execIncAtHL (s : State) : Result := incLoc .atHL s

/-- DEC (HL) (0x35): R281. -/
def execDecAtHL (s : State) : Result := decLoc .atHL s

/-- SCF (0x37): R284. -/
def execScf (s : State) : Result := .next ((s.setFlags s.flagZ false false true).report 4)

/-- INC A (0x3C): R278. -/
def execIncA (s : State) : Result := incLoc (.reg .a) s

/-- DEC A (0x3D): R280. -/
def execDecA (s : State) : Result := decLoc (.reg .a) s

/-- CCF (0x3F): R285. -/
def execCcf (s : State) : Result := .next ((s.setFlags s.flagZ false false (!s.flagC)).report 4)

/-- ADD A,B (0x80): R254. -/
def execAddA_B (s : State) : Result := alu .add (.reg .b) s

/-- ADD A,C (0x81): R254. -/
def execAddA_C (s : State) : Result := alu .add (.reg .c) s

/-- ADD A,D (0x82): R254. -/
def execAddA_D (s : State) : Result := alu .add (.reg .d) s

/-- ADD A,E (0x83): R254. -/
def execAddA_E (s : State) : Result := alu .add (.reg .e) s

/-- ADD A,H (0x84): R254. -/
def execAddA_H (s : State) : Result := alu .add (.reg .h) s

/-- ADD A,L (0x85): R254. -/
def execAddA_L (s : State) : Result := alu .add (.reg .l) s

/-- ADD A,(HL) (0x86): R255. -/
def execAddA_AtHL (s : State) : Result := alu .add .atHL s

/-- ADD A,A (0x87): R254. -/
def execAddA_A (s : State) : Result := alu .add (.reg .a) s

/-- ADC A,B (0x88): R257. -/
def execAdcA_B (s : State) : Result := alu .adc (.reg .b) s

/-- ADC A,C (0x89): R257. -/
def execAdcA_C (s : State) : Result := alu .adc (.reg .c) s

/-- ADC A,D (0x8A): R257. -/
def execAdcA_D (s : State) : Result := alu .adc (.reg .d) s

/-- ADC A,E (0x8B): R257. -/
def execAdcA_E (s : State) : Result := alu .adc (.reg .e) s

/-- ADC A,H (0x8C): R257. -/
def execAdcA_H (s : State) : Result := alu .adc (.reg .h) s

/-- ADC A,L (0x8D): R257. -/
def execAdcA_L (s : State) : Result := alu .adc (.reg .l) s

/-- ADC A,(HL) (0x8E): R258. -/
def execAdcA_AtHL (s : State) : Result := alu .adc .atHL s

/-- ADC A,A (0x8F): R257. -/
def execAdcA_A (s : State) : Result := alu .adc (.reg .a) s

/-- SUB B (0x90): R260. -/
def execSubB (s : State) : Result := alu .sub (.reg .b) s

/-- SUB C (0x91): R260. -/
def execSubC (s : State) : Result := alu .sub (.reg .c) s

/-- SUB D (0x92): R260. -/
def execSubD (s : State) : Result := alu .sub (.reg .d) s

/-- SUB E (0x93): R260. -/
def execSubE (s : State) : Result := alu .sub (.reg .e) s

/-- SUB H (0x94): R260. -/
def execSubH (s : State) : Result := alu .sub (.reg .h) s

/-- SUB L (0x95): R260. -/
def execSubL (s : State) : Result := alu .sub (.reg .l) s

/-- SUB (HL) (0x96): R261. -/
def execSubAtHL (s : State) : Result := alu .sub .atHL s

/-- SUB A (0x97): R260. -/
def execSubA (s : State) : Result := alu .sub (.reg .a) s

/-- SBC A,B (0x98): R263. -/
def execSbcA_B (s : State) : Result := alu .sbc (.reg .b) s

/-- SBC A,C (0x99): R263. -/
def execSbcA_C (s : State) : Result := alu .sbc (.reg .c) s

/-- SBC A,D (0x9A): R263. -/
def execSbcA_D (s : State) : Result := alu .sbc (.reg .d) s

/-- SBC A,E (0x9B): R263. -/
def execSbcA_E (s : State) : Result := alu .sbc (.reg .e) s

/-- SBC A,H (0x9C): R263. -/
def execSbcA_H (s : State) : Result := alu .sbc (.reg .h) s

/-- SBC A,L (0x9D): R263. -/
def execSbcA_L (s : State) : Result := alu .sbc (.reg .l) s

/-- SBC A,(HL) (0x9E): R264. -/
def execSbcA_AtHL (s : State) : Result := alu .sbc .atHL s

/-- SBC A,A (0x9F): R263. -/
def execSbcA_A (s : State) : Result := alu .sbc (.reg .a) s

/-- AND B (0xA0): R266. -/
def execAndB (s : State) : Result := alu .and (.reg .b) s

/-- AND C (0xA1): R266. -/
def execAndC (s : State) : Result := alu .and (.reg .c) s

/-- AND D (0xA2): R266. -/
def execAndD (s : State) : Result := alu .and (.reg .d) s

/-- AND E (0xA3): R266. -/
def execAndE (s : State) : Result := alu .and (.reg .e) s

/-- AND H (0xA4): R266. -/
def execAndH (s : State) : Result := alu .and (.reg .h) s

/-- AND L (0xA5): R266. -/
def execAndL (s : State) : Result := alu .and (.reg .l) s

/-- AND (HL) (0xA6): R267. -/
def execAndAtHL (s : State) : Result := alu .and .atHL s

/-- AND A (0xA7): R266. -/
def execAndA (s : State) : Result := alu .and (.reg .a) s

/-- XOR B (0xA8): R269. -/
def execXorB (s : State) : Result := alu .xor (.reg .b) s

/-- XOR C (0xA9): R269. -/
def execXorC (s : State) : Result := alu .xor (.reg .c) s

/-- XOR D (0xAA): R269. -/
def execXorD (s : State) : Result := alu .xor (.reg .d) s

/-- XOR E (0xAB): R269. -/
def execXorE (s : State) : Result := alu .xor (.reg .e) s

/-- XOR H (0xAC): R269. -/
def execXorH (s : State) : Result := alu .xor (.reg .h) s

/-- XOR L (0xAD): R269. -/
def execXorL (s : State) : Result := alu .xor (.reg .l) s

/-- XOR (HL) (0xAE): R270. -/
def execXorAtHL (s : State) : Result := alu .xor .atHL s

/-- XOR A (0xAF): R269. -/
def execXorA (s : State) : Result := alu .xor (.reg .a) s

/-- OR B (0xB0): R272. -/
def execOrB (s : State) : Result := alu .or (.reg .b) s

/-- OR C (0xB1): R272. -/
def execOrC (s : State) : Result := alu .or (.reg .c) s

/-- OR D (0xB2): R272. -/
def execOrD (s : State) : Result := alu .or (.reg .d) s

/-- OR E (0xB3): R272. -/
def execOrE (s : State) : Result := alu .or (.reg .e) s

/-- OR H (0xB4): R272. -/
def execOrH (s : State) : Result := alu .or (.reg .h) s

/-- OR L (0xB5): R272. -/
def execOrL (s : State) : Result := alu .or (.reg .l) s

/-- OR (HL) (0xB6): R273. -/
def execOrAtHL (s : State) : Result := alu .or .atHL s

/-- OR A (0xB7): R272. -/
def execOrA (s : State) : Result := alu .or (.reg .a) s

/-- CP B (0xB8): R275. -/
def execCpB (s : State) : Result := alu .cp (.reg .b) s

/-- CP C (0xB9): R275. -/
def execCpC (s : State) : Result := alu .cp (.reg .c) s

/-- CP D (0xBA): R275. -/
def execCpD (s : State) : Result := alu .cp (.reg .d) s

/-- CP E (0xBB): R275. -/
def execCpE (s : State) : Result := alu .cp (.reg .e) s

/-- CP H (0xBC): R275. -/
def execCpH (s : State) : Result := alu .cp (.reg .h) s

/-- CP L (0xBD): R275. -/
def execCpL (s : State) : Result := alu .cp (.reg .l) s

/-- CP (HL) (0xBE): R276. -/
def execCpAtHL (s : State) : Result := alu .cp .atHL s

/-- CP A (0xBF): R275. -/
def execCpA (s : State) : Result := alu .cp (.reg .a) s

/-- ADD A,d8 (0xC6): R256. -/
def execAddA_d8 (n : Byte) (s : State) : Result := alu .add (.imm n) s

/-- ADC A,d8 (0xCE): R259. -/
def execAdcA_d8 (n : Byte) (s : State) : Result := alu .adc (.imm n) s

/-- SUB d8 (0xD6): R262. -/
def execSub_d8 (n : Byte) (s : State) : Result := alu .sub (.imm n) s

/-- SBC A,d8 (0xDE): R265. -/
def execSbcA_d8 (n : Byte) (s : State) : Result := alu .sbc (.imm n) s

/-- AND d8 (0xE6): R268. -/
def execAnd_d8 (n : Byte) (s : State) : Result := alu .and (.imm n) s

/-- XOR d8 (0xEE): R271. -/
def execXor_d8 (n : Byte) (s : State) : Result := alu .xor (.imm n) s

/-- OR d8 (0xF6): R274. -/
def execOr_d8 (n : Byte) (s : State) : Result := alu .or (.imm n) s

/-- CP d8 (0xFE): R277. -/
def execCp_d8 (n : Byte) (s : State) : Result := alu .cp (.imm n) s

end Sys2Proof.Machine
end

