-- ==== Sys2Proof/Machine/Rotate.lean ====
section
/-!
DEFINITION. Rotates, shifts and SWAP (spec 44_rotate_shift.md R310 to R330).
-/

namespace Sys2Proof.Machine

/-- The accumulator-only rotates: Z is forced to 0 (R311 to R314). -/
def rotateA (k : RotKind) (s : State) : Result :=
  let r := rotate k s.a s.flagC
  .next (({ s with a := r.1 }.setFlags false false false r.2).report 4)

/-- The cycle count of an extended form that writes its operand back: 8 for a register, 16 for (HL) (R385, R471). -/
def modifyCycles : Loc8 → Nat
  | .reg _ => 8
  | .atHL => 16

/-- The extended forms: the operand is always written back (R315 to R330). -/
def rotateLoc (k : RotKind) (x : Loc8) (s : State) : Result :=
  let r := rotate k (s.locValue x) s.flagC
  .next ((((s.afterLoc x).setLoc x r.1).setFlags (decide (r.1 = 0)) false false r.2).report (modifyCycles x))

/-- RLCA (0x07): R311. -/
def execRlca (s : State) : Result := rotateA .rlc s

/-- RRCA (0x0F): R312. -/
def execRrca (s : State) : Result := rotateA .rrc s

/-- RLA (0x17): R313. -/
def execRla (s : State) : Result := rotateA .rl s

/-- RRA (0x1F): R314. -/
def execRra (s : State) : Result := rotateA .rr s

/-- RLC B (0xCB 0x00): R315. -/
def execRlcB (s : State) : Result := rotateLoc .rlc (.reg .b) s

/-- RLC C (0xCB 0x01): R315. -/
def execRlcC (s : State) : Result := rotateLoc .rlc (.reg .c) s

/-- RLC D (0xCB 0x02): R315. -/
def execRlcD (s : State) : Result := rotateLoc .rlc (.reg .d) s

/-- RLC E (0xCB 0x03): R315. -/
def execRlcE (s : State) : Result := rotateLoc .rlc (.reg .e) s

/-- RLC H (0xCB 0x04): R315. -/
def execRlcH (s : State) : Result := rotateLoc .rlc (.reg .h) s

/-- RLC L (0xCB 0x05): R315. -/
def execRlcL (s : State) : Result := rotateLoc .rlc (.reg .l) s

/-- RLC (HL) (0xCB 0x06): R316. -/
def execRlcAtHL (s : State) : Result := rotateLoc .rlc .atHL s

/-- RLC A (0xCB 0x07): R315. -/
def execRlcA (s : State) : Result := rotateLoc .rlc (.reg .a) s

/-- RRC B (0xCB 0x08): R317. -/
def execRrcB (s : State) : Result := rotateLoc .rrc (.reg .b) s

/-- RRC C (0xCB 0x09): R317. -/
def execRrcC (s : State) : Result := rotateLoc .rrc (.reg .c) s

/-- RRC D (0xCB 0x0A): R317. -/
def execRrcD (s : State) : Result := rotateLoc .rrc (.reg .d) s

/-- RRC E (0xCB 0x0B): R317. -/
def execRrcE (s : State) : Result := rotateLoc .rrc (.reg .e) s

/-- RRC H (0xCB 0x0C): R317. -/
def execRrcH (s : State) : Result := rotateLoc .rrc (.reg .h) s

/-- RRC L (0xCB 0x0D): R317. -/
def execRrcL (s : State) : Result := rotateLoc .rrc (.reg .l) s

/-- RRC (HL) (0xCB 0x0E): R318. -/
def execRrcAtHL (s : State) : Result := rotateLoc .rrc .atHL s

/-- RRC A (0xCB 0x0F): R317. -/
def execRrcA (s : State) : Result := rotateLoc .rrc (.reg .a) s

/-- RL B (0xCB 0x10): R319. -/
def execRlB (s : State) : Result := rotateLoc .rl (.reg .b) s

/-- RL C (0xCB 0x11): R319. -/
def execRlC (s : State) : Result := rotateLoc .rl (.reg .c) s

/-- RL D (0xCB 0x12): R319. -/
def execRlD (s : State) : Result := rotateLoc .rl (.reg .d) s

/-- RL E (0xCB 0x13): R319. -/
def execRlE (s : State) : Result := rotateLoc .rl (.reg .e) s

/-- RL H (0xCB 0x14): R319. -/
def execRlH (s : State) : Result := rotateLoc .rl (.reg .h) s

/-- RL L (0xCB 0x15): R319. -/
def execRlL (s : State) : Result := rotateLoc .rl (.reg .l) s

/-- RL (HL) (0xCB 0x16): R320. -/
def execRlAtHL (s : State) : Result := rotateLoc .rl .atHL s

/-- RL A (0xCB 0x17): R319. -/
def execRlA (s : State) : Result := rotateLoc .rl (.reg .a) s

/-- RR B (0xCB 0x18): R321. -/
def execRrB (s : State) : Result := rotateLoc .rr (.reg .b) s

/-- RR C (0xCB 0x19): R321. -/
def execRrC (s : State) : Result := rotateLoc .rr (.reg .c) s

/-- RR D (0xCB 0x1A): R321. -/
def execRrD (s : State) : Result := rotateLoc .rr (.reg .d) s

/-- RR E (0xCB 0x1B): R321. -/
def execRrE (s : State) : Result := rotateLoc .rr (.reg .e) s

/-- RR H (0xCB 0x1C): R321. -/
def execRrH (s : State) : Result := rotateLoc .rr (.reg .h) s

/-- RR L (0xCB 0x1D): R321. -/
def execRrL (s : State) : Result := rotateLoc .rr (.reg .l) s

/-- RR (HL) (0xCB 0x1E): R322. -/
def execRrAtHL (s : State) : Result := rotateLoc .rr .atHL s

/-- RR A (0xCB 0x1F): R321. -/
def execRrA (s : State) : Result := rotateLoc .rr (.reg .a) s

/-- SLA B (0xCB 0x20): R323. -/
def execSlaB (s : State) : Result := rotateLoc .sla (.reg .b) s

/-- SLA C (0xCB 0x21): R323. -/
def execSlaC (s : State) : Result := rotateLoc .sla (.reg .c) s

/-- SLA D (0xCB 0x22): R323. -/
def execSlaD (s : State) : Result := rotateLoc .sla (.reg .d) s

/-- SLA E (0xCB 0x23): R323. -/
def execSlaE (s : State) : Result := rotateLoc .sla (.reg .e) s

/-- SLA H (0xCB 0x24): R323. -/
def execSlaH (s : State) : Result := rotateLoc .sla (.reg .h) s

/-- SLA L (0xCB 0x25): R323. -/
def execSlaL (s : State) : Result := rotateLoc .sla (.reg .l) s

/-- SLA (HL) (0xCB 0x26): R324. -/
def execSlaAtHL (s : State) : Result := rotateLoc .sla .atHL s

/-- SLA A (0xCB 0x27): R323. -/
def execSlaA (s : State) : Result := rotateLoc .sla (.reg .a) s

/-- SRA B (0xCB 0x28): R325. -/
def execSraB (s : State) : Result := rotateLoc .sra (.reg .b) s

/-- SRA C (0xCB 0x29): R325. -/
def execSraC (s : State) : Result := rotateLoc .sra (.reg .c) s

/-- SRA D (0xCB 0x2A): R325. -/
def execSraD (s : State) : Result := rotateLoc .sra (.reg .d) s

/-- SRA E (0xCB 0x2B): R325. -/
def execSraE (s : State) : Result := rotateLoc .sra (.reg .e) s

/-- SRA H (0xCB 0x2C): R325. -/
def execSraH (s : State) : Result := rotateLoc .sra (.reg .h) s

/-- SRA L (0xCB 0x2D): R325. -/
def execSraL (s : State) : Result := rotateLoc .sra (.reg .l) s

/-- SRA (HL) (0xCB 0x2E): R326. -/
def execSraAtHL (s : State) : Result := rotateLoc .sra .atHL s

/-- SRA A (0xCB 0x2F): R325. -/
def execSraA (s : State) : Result := rotateLoc .sra (.reg .a) s

/-- SWAP B (0xCB 0x30): R327. -/
def execSwapB (s : State) : Result := rotateLoc .swap (.reg .b) s

/-- SWAP C (0xCB 0x31): R327. -/
def execSwapC (s : State) : Result := rotateLoc .swap (.reg .c) s

/-- SWAP D (0xCB 0x32): R327. -/
def execSwapD (s : State) : Result := rotateLoc .swap (.reg .d) s

/-- SWAP E (0xCB 0x33): R327. -/
def execSwapE (s : State) : Result := rotateLoc .swap (.reg .e) s

/-- SWAP H (0xCB 0x34): R327. -/
def execSwapH (s : State) : Result := rotateLoc .swap (.reg .h) s

/-- SWAP L (0xCB 0x35): R327. -/
def execSwapL (s : State) : Result := rotateLoc .swap (.reg .l) s

/-- SWAP (HL) (0xCB 0x36): R328. -/
def execSwapAtHL (s : State) : Result := rotateLoc .swap .atHL s

/-- SWAP A (0xCB 0x37): R327. -/
def execSwapA (s : State) : Result := rotateLoc .swap (.reg .a) s

/-- SRL B (0xCB 0x38): R329. -/
def execSrlB (s : State) : Result := rotateLoc .srl (.reg .b) s

/-- SRL C (0xCB 0x39): R329. -/
def execSrlC (s : State) : Result := rotateLoc .srl (.reg .c) s

/-- SRL D (0xCB 0x3A): R329. -/
def execSrlD (s : State) : Result := rotateLoc .srl (.reg .d) s

/-- SRL E (0xCB 0x3B): R329. -/
def execSrlE (s : State) : Result := rotateLoc .srl (.reg .e) s

/-- SRL H (0xCB 0x3C): R329. -/
def execSrlH (s : State) : Result := rotateLoc .srl (.reg .h) s

/-- SRL L (0xCB 0x3D): R329. -/
def execSrlL (s : State) : Result := rotateLoc .srl (.reg .l) s

/-- SRL (HL) (0xCB 0x3E): R330. -/
def execSrlAtHL (s : State) : Result := rotateLoc .srl .atHL s

/-- SRL A (0xCB 0x3F): R329. -/
def execSrlA (s : State) : Result := rotateLoc .srl (.reg .a) s

end Sys2Proof.Machine
end

