-- ==== Sys2Proof/Machine/Bit.lean ====
section
/-!
DEFINITION. Bit test, reset and set (spec 45_bit.md R340 to R345).
-/

namespace Sys2Proof.Machine

/-- The cycle count of BIT: 8 for a register, 12 for (HL) (R385, R471). -/
def bitCycles : Loc8 → Nat
  | .reg _ => 8
  | .atHL => 12

/-- BIT b,x: Z is the complement of the bit, C is kept, nothing is written back (R340, R341). -/
def bitTest (k : Index8) (x : Loc8) (s : State) : Result :=
  .next (((s.afterLoc x).setFlags (!testBit k (s.locValue x)) false true s.flagC).report (bitCycles x))

/-- RES b,x (R342, R343). -/
def bitReset (k : Index8) (x : Loc8) (s : State) : Result :=
  .next (((s.afterLoc x).setLoc x (clearBit k (s.locValue x))).report (modifyCycles x))

/-- SET b,x (R344, R345). -/
def bitSet (k : Index8) (x : Loc8) (s : State) : Result :=
  .next (((s.afterLoc x).setLoc x (setBit k (s.locValue x))).report (modifyCycles x))

/-- BIT 0,B (0xCB 0x40): R340. -/
def execBit0_B (s : State) : Result := bitTest .i0 (.reg .b) s

/-- BIT 0,C (0xCB 0x41): R340. -/
def execBit0_C (s : State) : Result := bitTest .i0 (.reg .c) s

/-- BIT 0,D (0xCB 0x42): R340. -/
def execBit0_D (s : State) : Result := bitTest .i0 (.reg .d) s

/-- BIT 0,E (0xCB 0x43): R340. -/
def execBit0_E (s : State) : Result := bitTest .i0 (.reg .e) s

/-- BIT 0,H (0xCB 0x44): R340. -/
def execBit0_H (s : State) : Result := bitTest .i0 (.reg .h) s

/-- BIT 0,L (0xCB 0x45): R340. -/
def execBit0_L (s : State) : Result := bitTest .i0 (.reg .l) s

/-- BIT 0,(HL) (0xCB 0x46): R341. -/
def execBit0_AtHL (s : State) : Result := bitTest .i0 .atHL s

/-- BIT 0,A (0xCB 0x47): R340. -/
def execBit0_A (s : State) : Result := bitTest .i0 (.reg .a) s

/-- BIT 1,B (0xCB 0x48): R340. -/
def execBit1_B (s : State) : Result := bitTest .i1 (.reg .b) s

/-- BIT 1,C (0xCB 0x49): R340. -/
def execBit1_C (s : State) : Result := bitTest .i1 (.reg .c) s

/-- BIT 1,D (0xCB 0x4A): R340. -/
def execBit1_D (s : State) : Result := bitTest .i1 (.reg .d) s

/-- BIT 1,E (0xCB 0x4B): R340. -/
def execBit1_E (s : State) : Result := bitTest .i1 (.reg .e) s

/-- BIT 1,H (0xCB 0x4C): R340. -/
def execBit1_H (s : State) : Result := bitTest .i1 (.reg .h) s

/-- BIT 1,L (0xCB 0x4D): R340. -/
def execBit1_L (s : State) : Result := bitTest .i1 (.reg .l) s

/-- BIT 1,(HL) (0xCB 0x4E): R341. -/
def execBit1_AtHL (s : State) : Result := bitTest .i1 .atHL s

/-- BIT 1,A (0xCB 0x4F): R340. -/
def execBit1_A (s : State) : Result := bitTest .i1 (.reg .a) s

/-- BIT 2,B (0xCB 0x50): R340. -/
def execBit2_B (s : State) : Result := bitTest .i2 (.reg .b) s

/-- BIT 2,C (0xCB 0x51): R340. -/
def execBit2_C (s : State) : Result := bitTest .i2 (.reg .c) s

/-- BIT 2,D (0xCB 0x52): R340. -/
def execBit2_D (s : State) : Result := bitTest .i2 (.reg .d) s

/-- BIT 2,E (0xCB 0x53): R340. -/
def execBit2_E (s : State) : Result := bitTest .i2 (.reg .e) s

/-- BIT 2,H (0xCB 0x54): R340. -/
def execBit2_H (s : State) : Result := bitTest .i2 (.reg .h) s

/-- BIT 2,L (0xCB 0x55): R340. -/
def execBit2_L (s : State) : Result := bitTest .i2 (.reg .l) s

/-- BIT 2,(HL) (0xCB 0x56): R341. -/
def execBit2_AtHL (s : State) : Result := bitTest .i2 .atHL s

/-- BIT 2,A (0xCB 0x57): R340. -/
def execBit2_A (s : State) : Result := bitTest .i2 (.reg .a) s

/-- BIT 3,B (0xCB 0x58): R340. -/
def execBit3_B (s : State) : Result := bitTest .i3 (.reg .b) s

/-- BIT 3,C (0xCB 0x59): R340. -/
def execBit3_C (s : State) : Result := bitTest .i3 (.reg .c) s

/-- BIT 3,D (0xCB 0x5A): R340. -/
def execBit3_D (s : State) : Result := bitTest .i3 (.reg .d) s

/-- BIT 3,E (0xCB 0x5B): R340. -/
def execBit3_E (s : State) : Result := bitTest .i3 (.reg .e) s

/-- BIT 3,H (0xCB 0x5C): R340. -/
def execBit3_H (s : State) : Result := bitTest .i3 (.reg .h) s

/-- BIT 3,L (0xCB 0x5D): R340. -/
def execBit3_L (s : State) : Result := bitTest .i3 (.reg .l) s

/-- BIT 3,(HL) (0xCB 0x5E): R341. -/
def execBit3_AtHL (s : State) : Result := bitTest .i3 .atHL s

/-- BIT 3,A (0xCB 0x5F): R340. -/
def execBit3_A (s : State) : Result := bitTest .i3 (.reg .a) s

/-- BIT 4,B (0xCB 0x60): R340. -/
def execBit4_B (s : State) : Result := bitTest .i4 (.reg .b) s

/-- BIT 4,C (0xCB 0x61): R340. -/
def execBit4_C (s : State) : Result := bitTest .i4 (.reg .c) s

/-- BIT 4,D (0xCB 0x62): R340. -/
def execBit4_D (s : State) : Result := bitTest .i4 (.reg .d) s

/-- BIT 4,E (0xCB 0x63): R340. -/
def execBit4_E (s : State) : Result := bitTest .i4 (.reg .e) s

/-- BIT 4,H (0xCB 0x64): R340. -/
def execBit4_H (s : State) : Result := bitTest .i4 (.reg .h) s

/-- BIT 4,L (0xCB 0x65): R340. -/
def execBit4_L (s : State) : Result := bitTest .i4 (.reg .l) s

/-- BIT 4,(HL) (0xCB 0x66): R341. -/
def execBit4_AtHL (s : State) : Result := bitTest .i4 .atHL s

/-- BIT 4,A (0xCB 0x67): R340. -/
def execBit4_A (s : State) : Result := bitTest .i4 (.reg .a) s

/-- BIT 5,B (0xCB 0x68): R340. -/
def execBit5_B (s : State) : Result := bitTest .i5 (.reg .b) s

/-- BIT 5,C (0xCB 0x69): R340. -/
def execBit5_C (s : State) : Result := bitTest .i5 (.reg .c) s

/-- BIT 5,D (0xCB 0x6A): R340. -/
def execBit5_D (s : State) : Result := bitTest .i5 (.reg .d) s

/-- BIT 5,E (0xCB 0x6B): R340. -/
def execBit5_E (s : State) : Result := bitTest .i5 (.reg .e) s

/-- BIT 5,H (0xCB 0x6C): R340. -/
def execBit5_H (s : State) : Result := bitTest .i5 (.reg .h) s

/-- BIT 5,L (0xCB 0x6D): R340. -/
def execBit5_L (s : State) : Result := bitTest .i5 (.reg .l) s

/-- BIT 5,(HL) (0xCB 0x6E): R341. -/
def execBit5_AtHL (s : State) : Result := bitTest .i5 .atHL s

/-- BIT 5,A (0xCB 0x6F): R340. -/
def execBit5_A (s : State) : Result := bitTest .i5 (.reg .a) s

/-- BIT 6,B (0xCB 0x70): R340. -/
def execBit6_B (s : State) : Result := bitTest .i6 (.reg .b) s

/-- BIT 6,C (0xCB 0x71): R340. -/
def execBit6_C (s : State) : Result := bitTest .i6 (.reg .c) s

/-- BIT 6,D (0xCB 0x72): R340. -/
def execBit6_D (s : State) : Result := bitTest .i6 (.reg .d) s

/-- BIT 6,E (0xCB 0x73): R340. -/
def execBit6_E (s : State) : Result := bitTest .i6 (.reg .e) s

/-- BIT 6,H (0xCB 0x74): R340. -/
def execBit6_H (s : State) : Result := bitTest .i6 (.reg .h) s

/-- BIT 6,L (0xCB 0x75): R340. -/
def execBit6_L (s : State) : Result := bitTest .i6 (.reg .l) s

/-- BIT 6,(HL) (0xCB 0x76): R341. -/
def execBit6_AtHL (s : State) : Result := bitTest .i6 .atHL s

/-- BIT 6,A (0xCB 0x77): R340. -/
def execBit6_A (s : State) : Result := bitTest .i6 (.reg .a) s

/-- BIT 7,B (0xCB 0x78): R340. -/
def execBit7_B (s : State) : Result := bitTest .i7 (.reg .b) s

/-- BIT 7,C (0xCB 0x79): R340. -/
def execBit7_C (s : State) : Result := bitTest .i7 (.reg .c) s

/-- BIT 7,D (0xCB 0x7A): R340. -/
def execBit7_D (s : State) : Result := bitTest .i7 (.reg .d) s

/-- BIT 7,E (0xCB 0x7B): R340. -/
def execBit7_E (s : State) : Result := bitTest .i7 (.reg .e) s

/-- BIT 7,H (0xCB 0x7C): R340. -/
def execBit7_H (s : State) : Result := bitTest .i7 (.reg .h) s

/-- BIT 7,L (0xCB 0x7D): R340. -/
def execBit7_L (s : State) : Result := bitTest .i7 (.reg .l) s

/-- BIT 7,(HL) (0xCB 0x7E): R341. -/
def execBit7_AtHL (s : State) : Result := bitTest .i7 .atHL s

/-- BIT 7,A (0xCB 0x7F): R340. -/
def execBit7_A (s : State) : Result := bitTest .i7 (.reg .a) s

/-- RES 0,B (0xCB 0x80): R342. -/
def execRes0_B (s : State) : Result := bitReset .i0 (.reg .b) s

/-- RES 0,C (0xCB 0x81): R342. -/
def execRes0_C (s : State) : Result := bitReset .i0 (.reg .c) s

/-- RES 0,D (0xCB 0x82): R342. -/
def execRes0_D (s : State) : Result := bitReset .i0 (.reg .d) s

/-- RES 0,E (0xCB 0x83): R342. -/
def execRes0_E (s : State) : Result := bitReset .i0 (.reg .e) s

/-- RES 0,H (0xCB 0x84): R342. -/
def execRes0_H (s : State) : Result := bitReset .i0 (.reg .h) s

/-- RES 0,L (0xCB 0x85): R342. -/
def execRes0_L (s : State) : Result := bitReset .i0 (.reg .l) s

/-- RES 0,(HL) (0xCB 0x86): R343. -/
def execRes0_AtHL (s : State) : Result := bitReset .i0 .atHL s

/-- RES 0,A (0xCB 0x87): R342. -/
def execRes0_A (s : State) : Result := bitReset .i0 (.reg .a) s

/-- RES 1,B (0xCB 0x88): R342. -/
def execRes1_B (s : State) : Result := bitReset .i1 (.reg .b) s

/-- RES 1,C (0xCB 0x89): R342. -/
def execRes1_C (s : State) : Result := bitReset .i1 (.reg .c) s

/-- RES 1,D (0xCB 0x8A): R342. -/
def execRes1_D (s : State) : Result := bitReset .i1 (.reg .d) s

/-- RES 1,E (0xCB 0x8B): R342. -/
def execRes1_E (s : State) : Result := bitReset .i1 (.reg .e) s

/-- RES 1,H (0xCB 0x8C): R342. -/
def execRes1_H (s : State) : Result := bitReset .i1 (.reg .h) s

/-- RES 1,L (0xCB 0x8D): R342. -/
def execRes1_L (s : State) : Result := bitReset .i1 (.reg .l) s

/-- RES 1,(HL) (0xCB 0x8E): R343. -/
def execRes1_AtHL (s : State) : Result := bitReset .i1 .atHL s

/-- RES 1,A (0xCB 0x8F): R342. -/
def execRes1_A (s : State) : Result := bitReset .i1 (.reg .a) s

/-- RES 2,B (0xCB 0x90): R342. -/
def execRes2_B (s : State) : Result := bitReset .i2 (.reg .b) s

/-- RES 2,C (0xCB 0x91): R342. -/
def execRes2_C (s : State) : Result := bitReset .i2 (.reg .c) s

/-- RES 2,D (0xCB 0x92): R342. -/
def execRes2_D (s : State) : Result := bitReset .i2 (.reg .d) s

/-- RES 2,E (0xCB 0x93): R342. -/
def execRes2_E (s : State) : Result := bitReset .i2 (.reg .e) s

/-- RES 2,H (0xCB 0x94): R342. -/
def execRes2_H (s : State) : Result := bitReset .i2 (.reg .h) s

/-- RES 2,L (0xCB 0x95): R342. -/
def execRes2_L (s : State) : Result := bitReset .i2 (.reg .l) s

/-- RES 2,(HL) (0xCB 0x96): R343. -/
def execRes2_AtHL (s : State) : Result := bitReset .i2 .atHL s

/-- RES 2,A (0xCB 0x97): R342. -/
def execRes2_A (s : State) : Result := bitReset .i2 (.reg .a) s

/-- RES 3,B (0xCB 0x98): R342. -/
def execRes3_B (s : State) : Result := bitReset .i3 (.reg .b) s

/-- RES 3,C (0xCB 0x99): R342. -/
def execRes3_C (s : State) : Result := bitReset .i3 (.reg .c) s

/-- RES 3,D (0xCB 0x9A): R342. -/
def execRes3_D (s : State) : Result := bitReset .i3 (.reg .d) s

/-- RES 3,E (0xCB 0x9B): R342. -/
def execRes3_E (s : State) : Result := bitReset .i3 (.reg .e) s

/-- RES 3,H (0xCB 0x9C): R342. -/
def execRes3_H (s : State) : Result := bitReset .i3 (.reg .h) s

/-- RES 3,L (0xCB 0x9D): R342. -/
def execRes3_L (s : State) : Result := bitReset .i3 (.reg .l) s

/-- RES 3,(HL) (0xCB 0x9E): R343. -/
def execRes3_AtHL (s : State) : Result := bitReset .i3 .atHL s

/-- RES 3,A (0xCB 0x9F): R342. -/
def execRes3_A (s : State) : Result := bitReset .i3 (.reg .a) s

/-- RES 4,B (0xCB 0xA0): R342. -/
def execRes4_B (s : State) : Result := bitReset .i4 (.reg .b) s

/-- RES 4,C (0xCB 0xA1): R342. -/
def execRes4_C (s : State) : Result := bitReset .i4 (.reg .c) s

/-- RES 4,D (0xCB 0xA2): R342. -/
def execRes4_D (s : State) : Result := bitReset .i4 (.reg .d) s

/-- RES 4,E (0xCB 0xA3): R342. -/
def execRes4_E (s : State) : Result := bitReset .i4 (.reg .e) s

/-- RES 4,H (0xCB 0xA4): R342. -/
def execRes4_H (s : State) : Result := bitReset .i4 (.reg .h) s

/-- RES 4,L (0xCB 0xA5): R342. -/
def execRes4_L (s : State) : Result := bitReset .i4 (.reg .l) s

/-- RES 4,(HL) (0xCB 0xA6): R343. -/
def execRes4_AtHL (s : State) : Result := bitReset .i4 .atHL s

/-- RES 4,A (0xCB 0xA7): R342. -/
def execRes4_A (s : State) : Result := bitReset .i4 (.reg .a) s

/-- RES 5,B (0xCB 0xA8): R342. -/
def execRes5_B (s : State) : Result := bitReset .i5 (.reg .b) s

/-- RES 5,C (0xCB 0xA9): R342. -/
def execRes5_C (s : State) : Result := bitReset .i5 (.reg .c) s

/-- RES 5,D (0xCB 0xAA): R342. -/
def execRes5_D (s : State) : Result := bitReset .i5 (.reg .d) s

/-- RES 5,E (0xCB 0xAB): R342. -/
def execRes5_E (s : State) : Result := bitReset .i5 (.reg .e) s

/-- RES 5,H (0xCB 0xAC): R342. -/
def execRes5_H (s : State) : Result := bitReset .i5 (.reg .h) s

/-- RES 5,L (0xCB 0xAD): R342. -/
def execRes5_L (s : State) : Result := bitReset .i5 (.reg .l) s

/-- RES 5,(HL) (0xCB 0xAE): R343. -/
def execRes5_AtHL (s : State) : Result := bitReset .i5 .atHL s

/-- RES 5,A (0xCB 0xAF): R342. -/
def execRes5_A (s : State) : Result := bitReset .i5 (.reg .a) s

/-- RES 6,B (0xCB 0xB0): R342. -/
def execRes6_B (s : State) : Result := bitReset .i6 (.reg .b) s

/-- RES 6,C (0xCB 0xB1): R342. -/
def execRes6_C (s : State) : Result := bitReset .i6 (.reg .c) s

/-- RES 6,D (0xCB 0xB2): R342. -/
def execRes6_D (s : State) : Result := bitReset .i6 (.reg .d) s

/-- RES 6,E (0xCB 0xB3): R342. -/
def execRes6_E (s : State) : Result := bitReset .i6 (.reg .e) s

/-- RES 6,H (0xCB 0xB4): R342. -/
def execRes6_H (s : State) : Result := bitReset .i6 (.reg .h) s

/-- RES 6,L (0xCB 0xB5): R342. -/
def execRes6_L (s : State) : Result := bitReset .i6 (.reg .l) s

/-- RES 6,(HL) (0xCB 0xB6): R343. -/
def execRes6_AtHL (s : State) : Result := bitReset .i6 .atHL s

/-- RES 6,A (0xCB 0xB7): R342. -/
def execRes6_A (s : State) : Result := bitReset .i6 (.reg .a) s

/-- RES 7,B (0xCB 0xB8): R342. -/
def execRes7_B (s : State) : Result := bitReset .i7 (.reg .b) s

/-- RES 7,C (0xCB 0xB9): R342. -/
def execRes7_C (s : State) : Result := bitReset .i7 (.reg .c) s

/-- RES 7,D (0xCB 0xBA): R342. -/
def execRes7_D (s : State) : Result := bitReset .i7 (.reg .d) s

/-- RES 7,E (0xCB 0xBB): R342. -/
def execRes7_E (s : State) : Result := bitReset .i7 (.reg .e) s

/-- RES 7,H (0xCB 0xBC): R342. -/
def execRes7_H (s : State) : Result := bitReset .i7 (.reg .h) s

/-- RES 7,L (0xCB 0xBD): R342. -/
def execRes7_L (s : State) : Result := bitReset .i7 (.reg .l) s

/-- RES 7,(HL) (0xCB 0xBE): R343. -/
def execRes7_AtHL (s : State) : Result := bitReset .i7 .atHL s

/-- RES 7,A (0xCB 0xBF): R342. -/
def execRes7_A (s : State) : Result := bitReset .i7 (.reg .a) s

/-- SET 0,B (0xCB 0xC0): R344. -/
def execSet0_B (s : State) : Result := bitSet .i0 (.reg .b) s

/-- SET 0,C (0xCB 0xC1): R344. -/
def execSet0_C (s : State) : Result := bitSet .i0 (.reg .c) s

/-- SET 0,D (0xCB 0xC2): R344. -/
def execSet0_D (s : State) : Result := bitSet .i0 (.reg .d) s

/-- SET 0,E (0xCB 0xC3): R344. -/
def execSet0_E (s : State) : Result := bitSet .i0 (.reg .e) s

/-- SET 0,H (0xCB 0xC4): R344. -/
def execSet0_H (s : State) : Result := bitSet .i0 (.reg .h) s

/-- SET 0,L (0xCB 0xC5): R344. -/
def execSet0_L (s : State) : Result := bitSet .i0 (.reg .l) s

/-- SET 0,(HL) (0xCB 0xC6): R345. -/
def execSet0_AtHL (s : State) : Result := bitSet .i0 .atHL s

/-- SET 0,A (0xCB 0xC7): R344. -/
def execSet0_A (s : State) : Result := bitSet .i0 (.reg .a) s

/-- SET 1,B (0xCB 0xC8): R344. -/
def execSet1_B (s : State) : Result := bitSet .i1 (.reg .b) s

/-- SET 1,C (0xCB 0xC9): R344. -/
def execSet1_C (s : State) : Result := bitSet .i1 (.reg .c) s

/-- SET 1,D (0xCB 0xCA): R344. -/
def execSet1_D (s : State) : Result := bitSet .i1 (.reg .d) s

/-- SET 1,E (0xCB 0xCB): R344. -/
def execSet1_E (s : State) : Result := bitSet .i1 (.reg .e) s

/-- SET 1,H (0xCB 0xCC): R344. -/
def execSet1_H (s : State) : Result := bitSet .i1 (.reg .h) s

/-- SET 1,L (0xCB 0xCD): R344. -/
def execSet1_L (s : State) : Result := bitSet .i1 (.reg .l) s

/-- SET 1,(HL) (0xCB 0xCE): R345. -/
def execSet1_AtHL (s : State) : Result := bitSet .i1 .atHL s

/-- SET 1,A (0xCB 0xCF): R344. -/
def execSet1_A (s : State) : Result := bitSet .i1 (.reg .a) s

/-- SET 2,B (0xCB 0xD0): R344. -/
def execSet2_B (s : State) : Result := bitSet .i2 (.reg .b) s

/-- SET 2,C (0xCB 0xD1): R344. -/
def execSet2_C (s : State) : Result := bitSet .i2 (.reg .c) s

/-- SET 2,D (0xCB 0xD2): R344. -/
def execSet2_D (s : State) : Result := bitSet .i2 (.reg .d) s

/-- SET 2,E (0xCB 0xD3): R344. -/
def execSet2_E (s : State) : Result := bitSet .i2 (.reg .e) s

/-- SET 2,H (0xCB 0xD4): R344. -/
def execSet2_H (s : State) : Result := bitSet .i2 (.reg .h) s

/-- SET 2,L (0xCB 0xD5): R344. -/
def execSet2_L (s : State) : Result := bitSet .i2 (.reg .l) s

/-- SET 2,(HL) (0xCB 0xD6): R345. -/
def execSet2_AtHL (s : State) : Result := bitSet .i2 .atHL s

/-- SET 2,A (0xCB 0xD7): R344. -/
def execSet2_A (s : State) : Result := bitSet .i2 (.reg .a) s

/-- SET 3,B (0xCB 0xD8): R344. -/
def execSet3_B (s : State) : Result := bitSet .i3 (.reg .b) s

/-- SET 3,C (0xCB 0xD9): R344. -/
def execSet3_C (s : State) : Result := bitSet .i3 (.reg .c) s

/-- SET 3,D (0xCB 0xDA): R344. -/
def execSet3_D (s : State) : Result := bitSet .i3 (.reg .d) s

/-- SET 3,E (0xCB 0xDB): R344. -/
def execSet3_E (s : State) : Result := bitSet .i3 (.reg .e) s

/-- SET 3,H (0xCB 0xDC): R344. -/
def execSet3_H (s : State) : Result := bitSet .i3 (.reg .h) s

/-- SET 3,L (0xCB 0xDD): R344. -/
def execSet3_L (s : State) : Result := bitSet .i3 (.reg .l) s

/-- SET 3,(HL) (0xCB 0xDE): R345. -/
def execSet3_AtHL (s : State) : Result := bitSet .i3 .atHL s

/-- SET 3,A (0xCB 0xDF): R344. -/
def execSet3_A (s : State) : Result := bitSet .i3 (.reg .a) s

/-- SET 4,B (0xCB 0xE0): R344. -/
def execSet4_B (s : State) : Result := bitSet .i4 (.reg .b) s

/-- SET 4,C (0xCB 0xE1): R344. -/
def execSet4_C (s : State) : Result := bitSet .i4 (.reg .c) s

/-- SET 4,D (0xCB 0xE2): R344. -/
def execSet4_D (s : State) : Result := bitSet .i4 (.reg .d) s

/-- SET 4,E (0xCB 0xE3): R344. -/
def execSet4_E (s : State) : Result := bitSet .i4 (.reg .e) s

/-- SET 4,H (0xCB 0xE4): R344. -/
def execSet4_H (s : State) : Result := bitSet .i4 (.reg .h) s

/-- SET 4,L (0xCB 0xE5): R344. -/
def execSet4_L (s : State) : Result := bitSet .i4 (.reg .l) s

/-- SET 4,(HL) (0xCB 0xE6): R345. -/
def execSet4_AtHL (s : State) : Result := bitSet .i4 .atHL s

/-- SET 4,A (0xCB 0xE7): R344. -/
def execSet4_A (s : State) : Result := bitSet .i4 (.reg .a) s

/-- SET 5,B (0xCB 0xE8): R344. -/
def execSet5_B (s : State) : Result := bitSet .i5 (.reg .b) s

/-- SET 5,C (0xCB 0xE9): R344. -/
def execSet5_C (s : State) : Result := bitSet .i5 (.reg .c) s

/-- SET 5,D (0xCB 0xEA): R344. -/
def execSet5_D (s : State) : Result := bitSet .i5 (.reg .d) s

/-- SET 5,E (0xCB 0xEB): R344. -/
def execSet5_E (s : State) : Result := bitSet .i5 (.reg .e) s

/-- SET 5,H (0xCB 0xEC): R344. -/
def execSet5_H (s : State) : Result := bitSet .i5 (.reg .h) s

/-- SET 5,L (0xCB 0xED): R344. -/
def execSet5_L (s : State) : Result := bitSet .i5 (.reg .l) s

/-- SET 5,(HL) (0xCB 0xEE): R345. -/
def execSet5_AtHL (s : State) : Result := bitSet .i5 .atHL s

/-- SET 5,A (0xCB 0xEF): R344. -/
def execSet5_A (s : State) : Result := bitSet .i5 (.reg .a) s

/-- SET 6,B (0xCB 0xF0): R344. -/
def execSet6_B (s : State) : Result := bitSet .i6 (.reg .b) s

/-- SET 6,C (0xCB 0xF1): R344. -/
def execSet6_C (s : State) : Result := bitSet .i6 (.reg .c) s

/-- SET 6,D (0xCB 0xF2): R344. -/
def execSet6_D (s : State) : Result := bitSet .i6 (.reg .d) s

/-- SET 6,E (0xCB 0xF3): R344. -/
def execSet6_E (s : State) : Result := bitSet .i6 (.reg .e) s

/-- SET 6,H (0xCB 0xF4): R344. -/
def execSet6_H (s : State) : Result := bitSet .i6 (.reg .h) s

/-- SET 6,L (0xCB 0xF5): R344. -/
def execSet6_L (s : State) : Result := bitSet .i6 (.reg .l) s

/-- SET 6,(HL) (0xCB 0xF6): R345. -/
def execSet6_AtHL (s : State) : Result := bitSet .i6 .atHL s

/-- SET 6,A (0xCB 0xF7): R344. -/
def execSet6_A (s : State) : Result := bitSet .i6 (.reg .a) s

/-- SET 7,B (0xCB 0xF8): R344. -/
def execSet7_B (s : State) : Result := bitSet .i7 (.reg .b) s

/-- SET 7,C (0xCB 0xF9): R344. -/
def execSet7_C (s : State) : Result := bitSet .i7 (.reg .c) s

/-- SET 7,D (0xCB 0xFA): R344. -/
def execSet7_D (s : State) : Result := bitSet .i7 (.reg .d) s

/-- SET 7,E (0xCB 0xFB): R344. -/
def execSet7_E (s : State) : Result := bitSet .i7 (.reg .e) s

/-- SET 7,H (0xCB 0xFC): R344. -/
def execSet7_H (s : State) : Result := bitSet .i7 (.reg .h) s

/-- SET 7,L (0xCB 0xFD): R344. -/
def execSet7_L (s : State) : Result := bitSet .i7 (.reg .l) s

/-- SET 7,(HL) (0xCB 0xFE): R345. -/
def execSet7_AtHL (s : State) : Result := bitSet .i7 .atHL s

/-- SET 7,A (0xCB 0xFF): R344. -/
def execSet7_A (s : State) : Result := bitSet .i7 (.reg .a) s

end Sys2Proof.Machine
end

