-- ==== Sys2Proof/Machine/Control.lean ====
section
/-!
DEFINITION. Jumps, calls, returns and restarts (spec 46_control.md R350 to R361). The PC here is PC_next, past all
bytes of the instruction.
-/

namespace Sys2Proof.Machine

/-- Push PC and go to a target (R356, R357, R361). -/
def State.call (s : State) (a : Word) : State := { s.push s.pc with pc := a }

/-- Pop PC (R358, R359). -/
def State.ret (s : State) : State := { s.afterPop with pc := s.popValue }

/-- JP cc,a16 (R352). -/
def jumpIf (cc : Cond) (a : Word) (s : State) : Result :=
  if s.cond cc then .next ({ s with pc := a }.report 16) else .next (s.report 12)

/-- JR cc,r8 (R355). -/
def jumpRelIf (cc : Cond) (d : Byte) (s : State) : Result :=
  if s.cond cc then .next ({ s with pc := s.relTarget d }.report 12) else .next (s.report 8)

/-- CALL cc,a16 (R357). -/
def callIf (cc : Cond) (a : Word) (s : State) : Result :=
  if s.cond cc then .next ((s.call a).report 24) else .next (s.report 12)

/-- RET cc (R359). -/
def returnIf (cc : Cond) (s : State) : Result :=
  if s.cond cc then .next (s.ret.report 20) else .next (s.report 8)

/-- JR r8 (0x18): R354. -/
def execJr_r8 (d : Byte) (s : State) : Result := .next ({ s with pc := s.relTarget d }.report 12)

/-- JR NZ,r8 (0x20): R355. -/
def execJrNZ_r8 (d : Byte) (s : State) : Result := jumpRelIf .nz d s

/-- JR Z,r8 (0x28): R355. -/
def execJrZ_r8 (d : Byte) (s : State) : Result := jumpRelIf .z d s

/-- JR NC,r8 (0x30): R355. -/
def execJrNC_r8 (d : Byte) (s : State) : Result := jumpRelIf .nc d s

/-- JR C,r8 (0x38): R355. -/
def execJrC_r8 (d : Byte) (s : State) : Result := jumpRelIf .c d s

/-- RET NZ (0xC0): R359. -/
def execRetNZ (s : State) : Result := returnIf .nz s

/-- JP NZ,a16 (0xC2): R352. -/
def execJpNZ_a16 (nn : Word) (s : State) : Result := jumpIf .nz nn s

/-- JP a16 (0xC3): R351. -/
def execJp_a16 (nn : Word) (s : State) : Result := .next ({ s with pc := nn }.report 16)

/-- CALL NZ,a16 (0xC4): R357. -/
def execCallNZ_a16 (nn : Word) (s : State) : Result := callIf .nz nn s

/-- RST 0x00 (0xC7): R361. -/
def execRst00 (s : State) : Result := .next ((s.call (restartTarget .i0)).report 16)

/-- RET Z (0xC8): R359. -/
def execRetZ (s : State) : Result := returnIf .z s

/-- RET (0xC9): R358. -/
def execRet (s : State) : Result := .next (s.ret.report 16)

/-- JP Z,a16 (0xCA): R352. -/
def execJpZ_a16 (nn : Word) (s : State) : Result := jumpIf .z nn s

/-- CALL Z,a16 (0xCC): R357. -/
def execCallZ_a16 (nn : Word) (s : State) : Result := callIf .z nn s

/-- CALL a16 (0xCD): R356. -/
def execCall_a16 (nn : Word) (s : State) : Result := .next ((s.call nn).report 24)

/-- RST 0x08 (0xCF): R361. -/
def execRst08 (s : State) : Result := .next ((s.call (restartTarget .i1)).report 16)

/-- RET NC (0xD0): R359. -/
def execRetNC (s : State) : Result := returnIf .nc s

/-- JP NC,a16 (0xD2): R352. -/
def execJpNC_a16 (nn : Word) (s : State) : Result := jumpIf .nc nn s

/-- CALL NC,a16 (0xD4): R357. -/
def execCallNC_a16 (nn : Word) (s : State) : Result := callIf .nc nn s

/-- RST 0x10 (0xD7): R361. -/
def execRst10 (s : State) : Result := .next ((s.call (restartTarget .i2)).report 16)

/-- RET C (0xD8): R359. -/
def execRetC (s : State) : Result := returnIf .c s

/-- RETI (0xD9): R360. -/
def execReti (s : State) : Result := .next (s.returnFromInterrupt.report 16)

/-- JP C,a16 (0xDA): R352. -/
def execJpC_a16 (nn : Word) (s : State) : Result := jumpIf .c nn s

/-- CALL C,a16 (0xDC): R357. -/
def execCallC_a16 (nn : Word) (s : State) : Result := callIf .c nn s

/-- RST 0x18 (0xDF): R361. -/
def execRst18 (s : State) : Result := .next ((s.call (restartTarget .i3)).report 16)

/-- RST 0x20 (0xE7): R361. -/
def execRst20 (s : State) : Result := .next ((s.call (restartTarget .i4)).report 16)

/-- JP HL (0xE9): R353. -/
def execJpHL (s : State) : Result := .next ({ s with pc := s.hl }.report 4)

/-- RST 0x28 (0xEF): R361. -/
def execRst28 (s : State) : Result := .next ((s.call (restartTarget .i5)).report 16)

/-- RST 0x30 (0xF7): R361. -/
def execRst30 (s : State) : Result := .next ((s.call (restartTarget .i6)).report 16)

/-- RST 0x38 (0xFF): R361. -/
def execRst38 (s : State) : Result := .next ((s.call (restartTarget .i7)).report 16)

end Sys2Proof.Machine
end

