-- ==== Sys2Proof/Machine/Load16.lean ====
section
/-!
DEFINITION. 16-bit loads and the stack instructions (spec 41_load16.md R230 to R235).
-/

namespace Sys2Proof.Machine

/-- LD rr,d16 (R230). -/
def ldPair (r : Reg16) (nn : Word) (s : State) : Result := .next ((s.setPair r nn).report 12)

/-- Store a word at an address, low byte first (R231). -/
def storeWord (a v : Word) (n : Nat) (s : State) : Result := .next ((s.writeWord a v).report n)

/-- LD HL,SP+r8 (R233). -/
def ldHLSp (d : Byte) (s : State) : Result :=
  let r := spOffset s.sp d
  .next (((s.setHL r.res).setFlags false false r.h r.c).report 12)

/-- PUSH qq (R234). -/
def pushPair (q : Stk16) (s : State) : Result := .next ((s.push (s.stk q)).report 16)

/-- POP qq (R235). -/
def popPair (q : Stk16) (s : State) : Result := .next ((s.afterPop.setStk q s.popValue).report 12)

/-- LD BC,d16 (0x01): R230. -/
def execLdBC_d16 (nn : Word) (s : State) : Result := ldPair .bc nn s

/-- LD (a16),SP (0x08): R231. -/
def execLdAtA16_SP (nn : Word) (s : State) : Result := storeWord nn s.sp 20 s

/-- LD DE,d16 (0x11): R230. -/
def execLdDE_d16 (nn : Word) (s : State) : Result := ldPair .de nn s

/-- LD HL,d16 (0x21): R230. -/
def execLdHL_d16 (nn : Word) (s : State) : Result := ldPair .hl nn s

/-- LD SP,d16 (0x31): R230. -/
def execLdSP_d16 (nn : Word) (s : State) : Result := ldPair .sp nn s

/-- POP BC (0xC1): R235. -/
def execPopBC (s : State) : Result := popPair .bc s

/-- PUSH BC (0xC5): R234. -/
def execPushBC (s : State) : Result := pushPair .bc s

/-- POP DE (0xD1): R235. -/
def execPopDE (s : State) : Result := popPair .de s

/-- PUSH DE (0xD5): R234. -/
def execPushDE (s : State) : Result := pushPair .de s

/-- POP HL (0xE1): R235. -/
def execPopHL (s : State) : Result := popPair .hl s

/-- PUSH HL (0xE5): R234. -/
def execPushHL (s : State) : Result := pushPair .hl s

/-- POP AF (0xF1): R235. -/
def execPopAF (s : State) : Result := popPair .af s

/-- PUSH AF (0xF5): R234. -/
def execPushAF (s : State) : Result := pushPair .af s

/-- LD HL,SP+r8 (0xF8): R233. -/
def execLdHL_SPr8 (d : Byte) (s : State) : Result := ldHLSp d s

/-- LD SP,HL (0xF9): R232. -/
def execLdSP_HL (s : State) : Result := .next ({ s with sp := s.hl }.report 8)

end Sys2Proof.Machine
end

