-- ==== Sys2Proof/WellFormed.lean ====
section
/-!
DEFINITION. Which terms of `Instr` are instructions as the decoder names them (spec 30_encoding.md R141, R152).
-/

namespace Sys2Proof

/-- Every term is well formed but the prefix row's own: the bytes 0xCB e are ONE instruction, the extended
instruction e (R141), so the canonical term of those bytes is the extended row's and not `prefixCB e`. Immediates
have the width of their field by type. -/
def Instr.wellFormed : Instr → Bool
  | .prefixCB _ => false
  | _ => true

end Sys2Proof
end

