-- ==== Sys2Proof/Decode.lean ====
section
/-!
DEFINITION. The decoder, by the fields x, y, z, p, q of the opcode byte (spec 30_encoding.md R140 to R157), total on
any bytes; after it the encoder, by the rows of the opcode table (R153, R161); and the table-word view of the
decoder.
-/

namespace Sys2Proof

/-! ## Operands and forms by field code -/

/-- Register code `r` (R143). -/
def locOfCode : Nat → Loc8
  | 0 => .reg .b
  | 1 => .reg .c
  | 2 => .reg .d
  | 3 => .reg .e
  | 4 => .reg .h
  | 5 => .reg .l
  | 6 => .atHL
  | _ => .reg .a

/-- The operand of an accumulator operation named by a register code (R143). -/
def srcOfLoc : Loc8 → Src8
  | .reg r => .reg r
  | .atHL => .atHL

/-- 16-bit register code of LD, INC, DEC and ADD HL (R144). -/
def pairOfCode : Nat → Reg16
  | 0 => .bc
  | 1 => .de
  | 2 => .hl
  | _ => .sp

/-- 16-bit register code of PUSH and POP (R144). -/
def stkOfCode : Nat → Stk16
  | 0 => .bc
  | 1 => .de
  | 2 => .hl
  | _ => .af

/-- Condition code (R145). -/
def condOfCode : Nat → Cond
  | 0 => .nz
  | 1 => .z
  | 2 => .nc
  | _ => .c

/-- ALU operation code (R154). -/
def aluOfCode : Nat → AluOp
  | 0 => .add
  | 1 => .adc
  | 2 => .sub
  | 3 => .sbc
  | 4 => .and
  | 5 => .xor
  | 6 => .or
  | _ => .cp

/-- Rotate kind code (R154). -/
def rotOfCode : Nat → RotKind
  | 0 => .rlc
  | 1 => .rrc
  | 2 => .rl
  | 3 => .rr
  | 4 => .sla
  | 5 => .sra
  | 6 => .swap
  | _ => .srl

/-- Bit number or restart number (R154). -/
def indexOfCode : Nat → Index8
  | 0 => .i0
  | 1 => .i1
  | 2 => .i2
  | 3 => .i3
  | 4 => .i4
  | 5 => .i5
  | 6 => .i6
  | _ => .i7

/-- LD r,r'; LD r,(HL); LD r,d8 (R147, R149). -/
def Instr.ldForm : Reg8 → Src8 → Instr
  | .b, .reg .b => .ldB_B
  | .b, .reg .c => .ldB_C
  | .b, .reg .d => .ldB_D
  | .b, .reg .e => .ldB_E
  | .b, .reg .h => .ldB_H
  | .b, .reg .l => .ldB_L
  | .b, .atHL => .ldB_AtHL
  | .b, .reg .a => .ldB_A
  | .c, .reg .b => .ldC_B
  | .c, .reg .c => .ldC_C
  | .c, .reg .d => .ldC_D
  | .c, .reg .e => .ldC_E
  | .c, .reg .h => .ldC_H
  | .c, .reg .l => .ldC_L
  | .c, .atHL => .ldC_AtHL
  | .c, .reg .a => .ldC_A
  | .d, .reg .b => .ldD_B
  | .d, .reg .c => .ldD_C
  | .d, .reg .d => .ldD_D
  | .d, .reg .e => .ldD_E
  | .d, .reg .h => .ldD_H
  | .d, .reg .l => .ldD_L
  | .d, .atHL => .ldD_AtHL
  | .d, .reg .a => .ldD_A
  | .e, .reg .b => .ldE_B
  | .e, .reg .c => .ldE_C
  | .e, .reg .d => .ldE_D
  | .e, .reg .e => .ldE_E
  | .e, .reg .h => .ldE_H
  | .e, .reg .l => .ldE_L
  | .e, .atHL => .ldE_AtHL
  | .e, .reg .a => .ldE_A
  | .h, .reg .b => .ldH_B
  | .h, .reg .c => .ldH_C
  | .h, .reg .d => .ldH_D
  | .h, .reg .e => .ldH_E
  | .h, .reg .h => .ldH_H
  | .h, .reg .l => .ldH_L
  | .h, .atHL => .ldH_AtHL
  | .h, .reg .a => .ldH_A
  | .l, .reg .b => .ldL_B
  | .l, .reg .c => .ldL_C
  | .l, .reg .d => .ldL_D
  | .l, .reg .e => .ldL_E
  | .l, .reg .h => .ldL_H
  | .l, .reg .l => .ldL_L
  | .l, .atHL => .ldL_AtHL
  | .l, .reg .a => .ldL_A
  | .a, .reg .b => .ldA_B
  | .a, .reg .c => .ldA_C
  | .a, .reg .d => .ldA_D
  | .a, .reg .e => .ldA_E
  | .a, .reg .h => .ldA_H
  | .a, .reg .l => .ldA_L
  | .a, .atHL => .ldA_AtHL
  | .a, .reg .a => .ldA_A
  | .b, .imm n => .ldB_d8 n
  | .c, .imm n => .ldC_d8 n
  | .d, .imm n => .ldD_d8 n
  | .e, .imm n => .ldE_d8 n
  | .h, .imm n => .ldH_d8 n
  | .l, .imm n => .ldL_d8 n
  | .a, .imm n => .ldA_d8 n

/-- LD (HL),r (R149). -/
def Instr.ldAtHLForm : Reg8 → Instr
  | .b => .ldAtHL_B
  | .c => .ldAtHL_C
  | .d => .ldAtHL_D
  | .e => .ldAtHL_E
  | .h => .ldAtHL_H
  | .l => .ldAtHL_L
  | .a => .ldAtHL_A

/-- The accumulator operations (R150, R151). -/
def Instr.aluForm : AluOp → Src8 → Instr
  | .add, .reg .b => .addA_B
  | .add, .reg .c => .addA_C
  | .add, .reg .d => .addA_D
  | .add, .reg .e => .addA_E
  | .add, .reg .h => .addA_H
  | .add, .reg .l => .addA_L
  | .add, .atHL => .addA_AtHL
  | .add, .reg .a => .addA_A
  | .adc, .reg .b => .adcA_B
  | .adc, .reg .c => .adcA_C
  | .adc, .reg .d => .adcA_D
  | .adc, .reg .e => .adcA_E
  | .adc, .reg .h => .adcA_H
  | .adc, .reg .l => .adcA_L
  | .adc, .atHL => .adcA_AtHL
  | .adc, .reg .a => .adcA_A
  | .sub, .reg .b => .subB
  | .sub, .reg .c => .subC
  | .sub, .reg .d => .subD
  | .sub, .reg .e => .subE
  | .sub, .reg .h => .subH
  | .sub, .reg .l => .subL
  | .sub, .atHL => .subAtHL
  | .sub, .reg .a => .subA
  | .sbc, .reg .b => .sbcA_B
  | .sbc, .reg .c => .sbcA_C
  | .sbc, .reg .d => .sbcA_D
  | .sbc, .reg .e => .sbcA_E
  | .sbc, .reg .h => .sbcA_H
  | .sbc, .reg .l => .sbcA_L
  | .sbc, .atHL => .sbcA_AtHL
  | .sbc, .reg .a => .sbcA_A
  | .and, .reg .b => .andB
  | .and, .reg .c => .andC
  | .and, .reg .d => .andD
  | .and, .reg .e => .andE
  | .and, .reg .h => .andH
  | .and, .reg .l => .andL
  | .and, .atHL => .andAtHL
  | .and, .reg .a => .andA
  | .xor, .reg .b => .xorB
  | .xor, .reg .c => .xorC
  | .xor, .reg .d => .xorD
  | .xor, .reg .e => .xorE
  | .xor, .reg .h => .xorH
  | .xor, .reg .l => .xorL
  | .xor, .atHL => .xorAtHL
  | .xor, .reg .a => .xorA
  | .or, .reg .b => .orB
  | .or, .reg .c => .orC
  | .or, .reg .d => .orD
  | .or, .reg .e => .orE
  | .or, .reg .h => .orH
  | .or, .reg .l => .orL
  | .or, .atHL => .orAtHL
  | .or, .reg .a => .orA
  | .cp, .reg .b => .cpB
  | .cp, .reg .c => .cpC
  | .cp, .reg .d => .cpD
  | .cp, .reg .e => .cpE
  | .cp, .reg .h => .cpH
  | .cp, .reg .l => .cpL
  | .cp, .atHL => .cpAtHL
  | .cp, .reg .a => .cpA
  | .add, .imm n => .addA_d8 n
  | .adc, .imm n => .adcA_d8 n
  | .sub, .imm n => .sub_d8 n
  | .sbc, .imm n => .sbcA_d8 n
  | .and, .imm n => .and_d8 n
  | .xor, .imm n => .xor_d8 n
  | .or, .imm n => .or_d8 n
  | .cp, .imm n => .cp_d8 n

/-- INC r; INC (HL) (R147). -/
def Instr.incForm : Loc8 → Instr
  | .reg .b => .incB
  | .reg .c => .incC
  | .reg .d => .incD
  | .reg .e => .incE
  | .reg .h => .incH
  | .reg .l => .incL
  | .atHL => .incAtHL
  | .reg .a => .incA

/-- DEC r; DEC (HL) (R147). -/
def Instr.decForm : Loc8 → Instr
  | .reg .b => .decB
  | .reg .c => .decC
  | .reg .d => .decD
  | .reg .e => .decE
  | .reg .h => .decH
  | .reg .l => .decL
  | .atHL => .decAtHL
  | .reg .a => .decA

/-- LD rr,d16 (R147). -/
def Instr.ldPairForm : Reg16 → Word → Instr
  | .bc, nn => .ldBC_d16 nn
  | .de, nn => .ldDE_d16 nn
  | .hl, nn => .ldHL_d16 nn
  | .sp, nn => .ldSP_d16 nn

/-- ADD HL,rr (R147). -/
def Instr.addHLForm : Reg16 → Instr
  | .bc => .addHL_BC
  | .de => .addHL_DE
  | .hl => .addHL_HL
  | .sp => .addHL_SP

/-- INC rr (R147). -/
def Instr.incPairForm : Reg16 → Instr
  | .bc => .incBC
  | .de => .incDE
  | .hl => .incHL
  | .sp => .incSP

/-- DEC rr (R147). -/
def Instr.decPairForm : Reg16 → Instr
  | .bc => .decBC
  | .de => .decDE
  | .hl => .decHL
  | .sp => .decSP

/-- PUSH qq (R151). -/
def Instr.pushForm : Stk16 → Instr
  | .bc => .pushBC
  | .de => .pushDE
  | .hl => .pushHL
  | .af => .pushAF

/-- POP qq (R151). -/
def Instr.popForm : Stk16 → Instr
  | .bc => .popBC
  | .de => .popDE
  | .hl => .popHL
  | .af => .popAF

/-- JR cc,r8 (R147). -/
def Instr.jrForm : Cond → Byte → Instr
  | .nz, d => .jrNZ_r8 d
  | .z, d => .jrZ_r8 d
  | .nc, d => .jrNC_r8 d
  | .c, d => .jrC_r8 d

/-- JP cc,a16 (R151). -/
def Instr.jpForm : Cond → Word → Instr
  | .nz, nn => .jpNZ_a16 nn
  | .z, nn => .jpZ_a16 nn
  | .nc, nn => .jpNC_a16 nn
  | .c, nn => .jpC_a16 nn

/-- CALL cc,a16 (R151). -/
def Instr.callForm : Cond → Word → Instr
  | .nz, nn => .callNZ_a16 nn
  | .z, nn => .callZ_a16 nn
  | .nc, nn => .callNC_a16 nn
  | .c, nn => .callC_a16 nn

/-- RET cc (R151). -/
def Instr.retForm : Cond → Instr
  | .nz => .retNZ
  | .z => .retZ
  | .nc => .retNC
  | .c => .retC

/-- RST 8y (R151, R154). -/
def Instr.rstForm : Index8 → Instr
  | .i0 => .rst00
  | .i1 => .rst08
  | .i2 => .rst10
  | .i3 => .rst18
  | .i4 => .rst20
  | .i5 => .rst28
  | .i6 => .rst30
  | .i7 => .rst38

/-- The extended rotates and shifts (R152). -/
def Instr.rotForm : RotKind → Loc8 → Instr
  | .rlc, .reg .b => .rlcB
  | .rlc, .reg .c => .rlcC
  | .rlc, .reg .d => .rlcD
  | .rlc, .reg .e => .rlcE
  | .rlc, .reg .h => .rlcH
  | .rlc, .reg .l => .rlcL
  | .rlc, .atHL => .rlcAtHL
  | .rlc, .reg .a => .rlcA
  | .rrc, .reg .b => .rrcB
  | .rrc, .reg .c => .rrcC
  | .rrc, .reg .d => .rrcD
  | .rrc, .reg .e => .rrcE
  | .rrc, .reg .h => .rrcH
  | .rrc, .reg .l => .rrcL
  | .rrc, .atHL => .rrcAtHL
  | .rrc, .reg .a => .rrcA
  | .rl, .reg .b => .rlB
  | .rl, .reg .c => .rlC
  | .rl, .reg .d => .rlD
  | .rl, .reg .e => .rlE
  | .rl, .reg .h => .rlH
  | .rl, .reg .l => .rlL
  | .rl, .atHL => .rlAtHL
  | .rl, .reg .a => .rlA
  | .rr, .reg .b => .rrB
  | .rr, .reg .c => .rrC
  | .rr, .reg .d => .rrD
  | .rr, .reg .e => .rrE
  | .rr, .reg .h => .rrH
  | .rr, .reg .l => .rrL
  | .rr, .atHL => .rrAtHL
  | .rr, .reg .a => .rrA
  | .sla, .reg .b => .slaB
  | .sla, .reg .c => .slaC
  | .sla, .reg .d => .slaD
  | .sla, .reg .e => .slaE
  | .sla, .reg .h => .slaH
  | .sla, .reg .l => .slaL
  | .sla, .atHL => .slaAtHL
  | .sla, .reg .a => .slaA
  | .sra, .reg .b => .sraB
  | .sra, .reg .c => .sraC
  | .sra, .reg .d => .sraD
  | .sra, .reg .e => .sraE
  | .sra, .reg .h => .sraH
  | .sra, .reg .l => .sraL
  | .sra, .atHL => .sraAtHL
  | .sra, .reg .a => .sraA
  | .swap, .reg .b => .swapB
  | .swap, .reg .c => .swapC
  | .swap, .reg .d => .swapD
  | .swap, .reg .e => .swapE
  | .swap, .reg .h => .swapH
  | .swap, .reg .l => .swapL
  | .swap, .atHL => .swapAtHL
  | .swap, .reg .a => .swapA
  | .srl, .reg .b => .srlB
  | .srl, .reg .c => .srlC
  | .srl, .reg .d => .srlD
  | .srl, .reg .e => .srlE
  | .srl, .reg .h => .srlH
  | .srl, .reg .l => .srlL
  | .srl, .atHL => .srlAtHL
  | .srl, .reg .a => .srlA

/-- BIT b,r; BIT b,(HL) (R152). -/
def Instr.bitForm : Index8 → Loc8 → Instr
  | .i0, .reg .b => .bit0_B
  | .i0, .reg .c => .bit0_C
  | .i0, .reg .d => .bit0_D
  | .i0, .reg .e => .bit0_E
  | .i0, .reg .h => .bit0_H
  | .i0, .reg .l => .bit0_L
  | .i0, .atHL => .bit0_AtHL
  | .i0, .reg .a => .bit0_A
  | .i1, .reg .b => .bit1_B
  | .i1, .reg .c => .bit1_C
  | .i1, .reg .d => .bit1_D
  | .i1, .reg .e => .bit1_E
  | .i1, .reg .h => .bit1_H
  | .i1, .reg .l => .bit1_L
  | .i1, .atHL => .bit1_AtHL
  | .i1, .reg .a => .bit1_A
  | .i2, .reg .b => .bit2_B
  | .i2, .reg .c => .bit2_C
  | .i2, .reg .d => .bit2_D
  | .i2, .reg .e => .bit2_E
  | .i2, .reg .h => .bit2_H
  | .i2, .reg .l => .bit2_L
  | .i2, .atHL => .bit2_AtHL
  | .i2, .reg .a => .bit2_A
  | .i3, .reg .b => .bit3_B
  | .i3, .reg .c => .bit3_C
  | .i3, .reg .d => .bit3_D
  | .i3, .reg .e => .bit3_E
  | .i3, .reg .h => .bit3_H
  | .i3, .reg .l => .bit3_L
  | .i3, .atHL => .bit3_AtHL
  | .i3, .reg .a => .bit3_A
  | .i4, .reg .b => .bit4_B
  | .i4, .reg .c => .bit4_C
  | .i4, .reg .d => .bit4_D
  | .i4, .reg .e => .bit4_E
  | .i4, .reg .h => .bit4_H
  | .i4, .reg .l => .bit4_L
  | .i4, .atHL => .bit4_AtHL
  | .i4, .reg .a => .bit4_A
  | .i5, .reg .b => .bit5_B
  | .i5, .reg .c => .bit5_C
  | .i5, .reg .d => .bit5_D
  | .i5, .reg .e => .bit5_E
  | .i5, .reg .h => .bit5_H
  | .i5, .reg .l => .bit5_L
  | .i5, .atHL => .bit5_AtHL
  | .i5, .reg .a => .bit5_A
  | .i6, .reg .b => .bit6_B
  | .i6, .reg .c => .bit6_C
  | .i6, .reg .d => .bit6_D
  | .i6, .reg .e => .bit6_E
  | .i6, .reg .h => .bit6_H
  | .i6, .reg .l => .bit6_L
  | .i6, .atHL => .bit6_AtHL
  | .i6, .reg .a => .bit6_A
  | .i7, .reg .b => .bit7_B
  | .i7, .reg .c => .bit7_C
  | .i7, .reg .d => .bit7_D
  | .i7, .reg .e => .bit7_E
  | .i7, .reg .h => .bit7_H
  | .i7, .reg .l => .bit7_L
  | .i7, .atHL => .bit7_AtHL
  | .i7, .reg .a => .bit7_A

/-- RES b,r; RES b,(HL) (R152). -/
def Instr.resForm : Index8 → Loc8 → Instr
  | .i0, .reg .b => .res0_B
  | .i0, .reg .c => .res0_C
  | .i0, .reg .d => .res0_D
  | .i0, .reg .e => .res0_E
  | .i0, .reg .h => .res0_H
  | .i0, .reg .l => .res0_L
  | .i0, .atHL => .res0_AtHL
  | .i0, .reg .a => .res0_A
  | .i1, .reg .b => .res1_B
  | .i1, .reg .c => .res1_C
  | .i1, .reg .d => .res1_D
  | .i1, .reg .e => .res1_E
  | .i1, .reg .h => .res1_H
  | .i1, .reg .l => .res1_L
  | .i1, .atHL => .res1_AtHL
  | .i1, .reg .a => .res1_A
  | .i2, .reg .b => .res2_B
  | .i2, .reg .c => .res2_C
  | .i2, .reg .d => .res2_D
  | .i2, .reg .e => .res2_E
  | .i2, .reg .h => .res2_H
  | .i2, .reg .l => .res2_L
  | .i2, .atHL => .res2_AtHL
  | .i2, .reg .a => .res2_A
  | .i3, .reg .b => .res3_B
  | .i3, .reg .c => .res3_C
  | .i3, .reg .d => .res3_D
  | .i3, .reg .e => .res3_E
  | .i3, .reg .h => .res3_H
  | .i3, .reg .l => .res3_L
  | .i3, .atHL => .res3_AtHL
  | .i3, .reg .a => .res3_A
  | .i4, .reg .b => .res4_B
  | .i4, .reg .c => .res4_C
  | .i4, .reg .d => .res4_D
  | .i4, .reg .e => .res4_E
  | .i4, .reg .h => .res4_H
  | .i4, .reg .l => .res4_L
  | .i4, .atHL => .res4_AtHL
  | .i4, .reg .a => .res4_A
  | .i5, .reg .b => .res5_B
  | .i5, .reg .c => .res5_C
  | .i5, .reg .d => .res5_D
  | .i5, .reg .e => .res5_E
  | .i5, .reg .h => .res5_H
  | .i5, .reg .l => .res5_L
  | .i5, .atHL => .res5_AtHL
  | .i5, .reg .a => .res5_A
  | .i6, .reg .b => .res6_B
  | .i6, .reg .c => .res6_C
  | .i6, .reg .d => .res6_D
  | .i6, .reg .e => .res6_E
  | .i6, .reg .h => .res6_H
  | .i6, .reg .l => .res6_L
  | .i6, .atHL => .res6_AtHL
  | .i6, .reg .a => .res6_A
  | .i7, .reg .b => .res7_B
  | .i7, .reg .c => .res7_C
  | .i7, .reg .d => .res7_D
  | .i7, .reg .e => .res7_E
  | .i7, .reg .h => .res7_H
  | .i7, .reg .l => .res7_L
  | .i7, .atHL => .res7_AtHL
  | .i7, .reg .a => .res7_A

/-- SET b,r; SET b,(HL) (R152). -/
def Instr.setForm : Index8 → Loc8 → Instr
  | .i0, .reg .b => .set0_B
  | .i0, .reg .c => .set0_C
  | .i0, .reg .d => .set0_D
  | .i0, .reg .e => .set0_E
  | .i0, .reg .h => .set0_H
  | .i0, .reg .l => .set0_L
  | .i0, .atHL => .set0_AtHL
  | .i0, .reg .a => .set0_A
  | .i1, .reg .b => .set1_B
  | .i1, .reg .c => .set1_C
  | .i1, .reg .d => .set1_D
  | .i1, .reg .e => .set1_E
  | .i1, .reg .h => .set1_H
  | .i1, .reg .l => .set1_L
  | .i1, .atHL => .set1_AtHL
  | .i1, .reg .a => .set1_A
  | .i2, .reg .b => .set2_B
  | .i2, .reg .c => .set2_C
  | .i2, .reg .d => .set2_D
  | .i2, .reg .e => .set2_E
  | .i2, .reg .h => .set2_H
  | .i2, .reg .l => .set2_L
  | .i2, .atHL => .set2_AtHL
  | .i2, .reg .a => .set2_A
  | .i3, .reg .b => .set3_B
  | .i3, .reg .c => .set3_C
  | .i3, .reg .d => .set3_D
  | .i3, .reg .e => .set3_E
  | .i3, .reg .h => .set3_H
  | .i3, .reg .l => .set3_L
  | .i3, .atHL => .set3_AtHL
  | .i3, .reg .a => .set3_A
  | .i4, .reg .b => .set4_B
  | .i4, .reg .c => .set4_C
  | .i4, .reg .d => .set4_D
  | .i4, .reg .e => .set4_E
  | .i4, .reg .h => .set4_H
  | .i4, .reg .l => .set4_L
  | .i4, .atHL => .set4_AtHL
  | .i4, .reg .a => .set4_A
  | .i5, .reg .b => .set5_B
  | .i5, .reg .c => .set5_C
  | .i5, .reg .d => .set5_D
  | .i5, .reg .e => .set5_E
  | .i5, .reg .h => .set5_H
  | .i5, .reg .l => .set5_L
  | .i5, .atHL => .set5_AtHL
  | .i5, .reg .a => .set5_A
  | .i6, .reg .b => .set6_B
  | .i6, .reg .c => .set6_C
  | .i6, .reg .d => .set6_D
  | .i6, .reg .e => .set6_E
  | .i6, .reg .h => .set6_H
  | .i6, .reg .l => .set6_L
  | .i6, .atHL => .set6_AtHL
  | .i6, .reg .a => .set6_A
  | .i7, .reg .b => .set7_B
  | .i7, .reg .c => .set7_C
  | .i7, .reg .d => .set7_D
  | .i7, .reg .e => .set7_E
  | .i7, .reg .h => .set7_H
  | .i7, .reg .l => .set7_L
  | .i7, .atHL => .set7_AtHL
  | .i7, .reg .a => .set7_A

/-! ## The decoder -/

/-- Quadrant x = 0 (R147); `lo` and `hi` are the bytes after the opcode. -/
def decodeQuad0 (y z : Nat) (lo hi : Byte) : Instr :=
  match z with
  | 0 =>
    match y with
    | 0 => .nop
    | 1 => .ldAtA16_SP (joinBytes hi lo)
    | 2 => .stop lo
    | 3 => .jr_r8 lo
    | _ => .jrForm (condOfCode (y - 4)) lo
  | 1 => if y % 2 = 0 then .ldPairForm (pairOfCode (y / 2)) (joinBytes hi lo) else .addHLForm (pairOfCode (y / 2))
  | 2 =>
    match y with
    | 0 => .ldAtBC_A
    | 1 => .ldA_AtBC
    | 2 => .ldAtDE_A
    | 3 => .ldA_AtDE
    | 4 => .ldAtHLInc_A
    | 5 => .ldA_AtHLInc
    | 6 => .ldAtHLDec_A
    | _ => .ldA_AtHLDec
  | 3 => if y % 2 = 0 then .incPairForm (pairOfCode (y / 2)) else .decPairForm (pairOfCode (y / 2))
  | 4 => .incForm (locOfCode y)
  | 5 => .decForm (locOfCode y)
  | 6 =>
    match locOfCode y with
    | .reg r => .ldForm r (.imm lo)
    | .atHL => .ldAtHL_d8 lo
  | _ =>
    match y with
    | 0 => .rlca
    | 1 => .rrca
    | 2 => .rla
    | 3 => .rra
    | 4 => .daa
    | 5 => .cpl
    | 6 => .scf
    | _ => .ccf

/-- Quadrant x = 1 (R149). -/
def decodeQuad1 (y z : Nat) : Instr :=
  match locOfCode y, locOfCode z with
  | .atHL, .atHL => .halt
  | .atHL, .reg r => .ldAtHLForm r
  | .reg r, src => .ldForm r (srcOfLoc src)

/-- The extended opcode after the prefix (R152). -/
def decodeExtended (e : Byte) : Instr :=
  let y := e.toNat / 8 % 8
  let operand := locOfCode (e.toNat % 8)
  match e.toNat / 64 with
  | 0 => .rotForm (rotOfCode y) operand
  | 1 => .bitForm (indexOfCode y) operand
  | 2 => .resForm (indexOfCode y) operand
  | _ => .setForm (indexOfCode y) operand

/-- Quadrant x = 3 (R151, R155). -/
def decodeQuad3 (y z : Nat) (lo hi : Byte) : Instr :=
  match z with
  | 0 =>
    match y with
    | 4 => .ldhAtA8_A lo
    | 5 => .addSP_r8 lo
    | 6 => .ldhA_AtA8 lo
    | 7 => .ldHL_SPr8 lo
    | _ => .retForm (condOfCode y)
  | 1 =>
    match y with
    | 1 => .ret
    | 3 => .reti
    | 5 => .jpHL
    | 7 => .ldSP_HL
    | _ => .popForm (stkOfCode (y / 2))
  | 2 =>
    match y with
    | 4 => .ldAtC_A
    | 5 => .ldAtA16_A (joinBytes hi lo)
    | 6 => .ldA_AtC
    | 7 => .ldA_AtA16 (joinBytes hi lo)
    | _ => .jpForm (condOfCode y) (joinBytes hi lo)
  | 3 =>
    match y with
    | 0 => .jp_a16 (joinBytes hi lo)
    | 1 => decodeExtended lo
    | 2 => .undefD3
    | 3 => .undefDB
    | 4 => .undefE3
    | 5 => .undefEB
    | 6 => .di
    | _ => .ei
  | 4 =>
    match y with
    | 4 => .undefE4
    | 5 => .undefEC
    | 6 => .undefF4
    | 7 => .undefFC
    | _ => .callForm (condOfCode y) (joinBytes hi lo)
  | 5 =>
    match y with
    | 1 => .call_a16 (joinBytes hi lo)
    | 3 => .undefDD
    | 5 => .undefED
    | 7 => .undefFD
    | _ => .pushForm (stkOfCode (y / 2))
  | 6 => .aluForm (aluOfCode y) (.imm lo)
  | _ => .rstForm (indexOfCode y)

/-- The instruction of a primary opcode byte and the bytes after it (R140): a total function. The bytes an
instruction does not have are not looked at. -/
def decodeOp (op lo hi : Byte) : Instr :=
  let y := op.toNat / 8 % 8
  let z := op.toNat % 8
  match op.toNat / 64 with
  | 0 => decodeQuad0 y z lo hi
  | 1 => decodeQuad1 y z
  | 2 => .aluForm (aluOfCode y) (srcOfLoc (locOfCode z))
  | _ => decodeQuad3 y z lo hi

/-- The length of an instruction in bytes, from its first byte alone (R142, R157). -/
def instrLength (op : Byte) : Nat :=
  let y := op.toNat / 8 % 8
  let z := op.toNat % 8
  match op.toNat / 64, z with
  | 0, 0 => if y = 0 then 1 else if y = 1 then 3 else 2
  | 0, 1 => if y % 2 = 0 then 3 else 1
  | 0, 6 => 2
  | 3, 0 => if y < 4 then 1 else 2
  | 3, 2 => if y < 4 ∨ y = 5 ∨ y = 7 then 3 else 1
  | 3, 3 => if y = 0 then 3 else if y = 1 then 2 else 1
  | 3, 4 => if y < 4 then 3 else 1
  | 3, 5 => if y = 1 then 3 else 1
  | 3, 6 => 2
  | _, _ => 1

/-- Why the decoder gives no instruction: the list ends inside one. No byte value is rejected (R140). -/
inductive DecodeError where
  | noBytes
  | truncated (op : Byte)
deriving DecidableEq, Repr

/-- What the decoder reads from a list of bytes: an instruction and the bytes after it, or a rejection by name. -/
inductive Decoded where
  | instr (i : Instr) (rest : List Byte)
  | rejected (why : DecodeError)
deriving DecidableEq, Repr

/-- The decoder on a list of bytes, first byte first (R72, R142, R157). -/
def decode : List Byte → Decoded
  | [] => .rejected .noBytes
  | op :: rest =>
    match instrLength op, rest with
    | 1, rest => .instr (decodeOp op 0 0) rest
    | 2, lo :: rest => .instr (decodeOp op lo 0) rest
    | 3, lo :: hi :: rest => .instr (decodeOp op lo hi) rest
    | _, _ => .rejected (.truncated op)

/-! ## The encoder -/

/-- The bytes of an instruction, first byte first, by its row of the opcode table (R153, R161). -/
def encode : Instr → List Byte
  | .nop => [0x00]
  | .ldBC_d16 nn => [0x01, loByte nn, hiByte nn]
  | .ldAtBC_A => [0x02]
  | .incBC => [0x03]
  | .incB => [0x04]
  | .decB => [0x05]
  | .ldB_d8 n => [0x06, n]
  | .rlca => [0x07]
  | .ldAtA16_SP nn => [0x08, loByte nn, hiByte nn]
  | .addHL_BC => [0x09]
  | .ldA_AtBC => [0x0A]
  | .decBC => [0x0B]
  | .incC => [0x0C]
  | .decC => [0x0D]
  | .ldC_d8 n => [0x0E, n]
  | .rrca => [0x0F]
  | .stop pad => [0x10, pad]
  | .ldDE_d16 nn => [0x11, loByte nn, hiByte nn]
  | .ldAtDE_A => [0x12]
  | .incDE => [0x13]
  | .incD => [0x14]
  | .decD => [0x15]
  | .ldD_d8 n => [0x16, n]
  | .rla => [0x17]
  | .jr_r8 d => [0x18, d]
  | .addHL_DE => [0x19]
  | .ldA_AtDE => [0x1A]
  | .decDE => [0x1B]
  | .incE => [0x1C]
  | .decE => [0x1D]
  | .ldE_d8 n => [0x1E, n]
  | .rra => [0x1F]
  | .jrNZ_r8 d => [0x20, d]
  | .ldHL_d16 nn => [0x21, loByte nn, hiByte nn]
  | .ldAtHLInc_A => [0x22]
  | .incHL => [0x23]
  | .incH => [0x24]
  | .decH => [0x25]
  | .ldH_d8 n => [0x26, n]
  | .daa => [0x27]
  | .jrZ_r8 d => [0x28, d]
  | .addHL_HL => [0x29]
  | .ldA_AtHLInc => [0x2A]
  | .decHL => [0x2B]
  | .incL => [0x2C]
  | .decL => [0x2D]
  | .ldL_d8 n => [0x2E, n]
  | .cpl => [0x2F]
  | .jrNC_r8 d => [0x30, d]
  | .ldSP_d16 nn => [0x31, loByte nn, hiByte nn]
  | .ldAtHLDec_A => [0x32]
  | .incSP => [0x33]
  | .incAtHL => [0x34]
  | .decAtHL => [0x35]
  | .ldAtHL_d8 n => [0x36, n]
  | .scf => [0x37]
  | .jrC_r8 d => [0x38, d]
  | .addHL_SP => [0x39]
  | .ldA_AtHLDec => [0x3A]
  | .decSP => [0x3B]
  | .incA => [0x3C]
  | .decA => [0x3D]
  | .ldA_d8 n => [0x3E, n]
  | .ccf => [0x3F]
  | .ldB_B => [0x40]
  | .ldB_C => [0x41]
  | .ldB_D => [0x42]
  | .ldB_E => [0x43]
  | .ldB_H => [0x44]
  | .ldB_L => [0x45]
  | .ldB_AtHL => [0x46]
  | .ldB_A => [0x47]
  | .ldC_B => [0x48]
  | .ldC_C => [0x49]
  | .ldC_D => [0x4A]
  | .ldC_E => [0x4B]
  | .ldC_H => [0x4C]
  | .ldC_L => [0x4D]
  | .ldC_AtHL => [0x4E]
  | .ldC_A => [0x4F]
  | .ldD_B => [0x50]
  | .ldD_C => [0x51]
  | .ldD_D => [0x52]
  | .ldD_E => [0x53]
  | .ldD_H => [0x54]
  | .ldD_L => [0x55]
  | .ldD_AtHL => [0x56]
  | .ldD_A => [0x57]
  | .ldE_B => [0x58]
  | .ldE_C => [0x59]
  | .ldE_D => [0x5A]
  | .ldE_E => [0x5B]
  | .ldE_H => [0x5C]
  | .ldE_L => [0x5D]
  | .ldE_AtHL => [0x5E]
  | .ldE_A => [0x5F]
  | .ldH_B => [0x60]
  | .ldH_C => [0x61]
  | .ldH_D => [0x62]
  | .ldH_E => [0x63]
  | .ldH_H => [0x64]
  | .ldH_L => [0x65]
  | .ldH_AtHL => [0x66]
  | .ldH_A => [0x67]
  | .ldL_B => [0x68]
  | .ldL_C => [0x69]
  | .ldL_D => [0x6A]
  | .ldL_E => [0x6B]
  | .ldL_H => [0x6C]
  | .ldL_L => [0x6D]
  | .ldL_AtHL => [0x6E]
  | .ldL_A => [0x6F]
  | .ldAtHL_B => [0x70]
  | .ldAtHL_C => [0x71]
  | .ldAtHL_D => [0x72]
  | .ldAtHL_E => [0x73]
  | .ldAtHL_H => [0x74]
  | .ldAtHL_L => [0x75]
  | .halt => [0x76]
  | .ldAtHL_A => [0x77]
  | .ldA_B => [0x78]
  | .ldA_C => [0x79]
  | .ldA_D => [0x7A]
  | .ldA_E => [0x7B]
  | .ldA_H => [0x7C]
  | .ldA_L => [0x7D]
  | .ldA_AtHL => [0x7E]
  | .ldA_A => [0x7F]
  | .addA_B => [0x80]
  | .addA_C => [0x81]
  | .addA_D => [0x82]
  | .addA_E => [0x83]
  | .addA_H => [0x84]
  | .addA_L => [0x85]
  | .addA_AtHL => [0x86]
  | .addA_A => [0x87]
  | .adcA_B => [0x88]
  | .adcA_C => [0x89]
  | .adcA_D => [0x8A]
  | .adcA_E => [0x8B]
  | .adcA_H => [0x8C]
  | .adcA_L => [0x8D]
  | .adcA_AtHL => [0x8E]
  | .adcA_A => [0x8F]
  | .subB => [0x90]
  | .subC => [0x91]
  | .subD => [0x92]
  | .subE => [0x93]
  | .subH => [0x94]
  | .subL => [0x95]
  | .subAtHL => [0x96]
  | .subA => [0x97]
  | .sbcA_B => [0x98]
  | .sbcA_C => [0x99]
  | .sbcA_D => [0x9A]
  | .sbcA_E => [0x9B]
  | .sbcA_H => [0x9C]
  | .sbcA_L => [0x9D]
  | .sbcA_AtHL => [0x9E]
  | .sbcA_A => [0x9F]
  | .andB => [0xA0]
  | .andC => [0xA1]
  | .andD => [0xA2]
  | .andE => [0xA3]
  | .andH => [0xA4]
  | .andL => [0xA5]
  | .andAtHL => [0xA6]
  | .andA => [0xA7]
  | .xorB => [0xA8]
  | .xorC => [0xA9]
  | .xorD => [0xAA]
  | .xorE => [0xAB]
  | .xorH => [0xAC]
  | .xorL => [0xAD]
  | .xorAtHL => [0xAE]
  | .xorA => [0xAF]
  | .orB => [0xB0]
  | .orC => [0xB1]
  | .orD => [0xB2]
  | .orE => [0xB3]
  | .orH => [0xB4]
  | .orL => [0xB5]
  | .orAtHL => [0xB6]
  | .orA => [0xB7]
  | .cpB => [0xB8]
  | .cpC => [0xB9]
  | .cpD => [0xBA]
  | .cpE => [0xBB]
  | .cpH => [0xBC]
  | .cpL => [0xBD]
  | .cpAtHL => [0xBE]
  | .cpA => [0xBF]
  | .retNZ => [0xC0]
  | .popBC => [0xC1]
  | .jpNZ_a16 nn => [0xC2, loByte nn, hiByte nn]
  | .jp_a16 nn => [0xC3, loByte nn, hiByte nn]
  | .callNZ_a16 nn => [0xC4, loByte nn, hiByte nn]
  | .pushBC => [0xC5]
  | .addA_d8 n => [0xC6, n]
  | .rst00 => [0xC7]
  | .retZ => [0xC8]
  | .ret => [0xC9]
  | .jpZ_a16 nn => [0xCA, loByte nn, hiByte nn]
  | .prefixCB e => [0xCB, e]
  | .callZ_a16 nn => [0xCC, loByte nn, hiByte nn]
  | .call_a16 nn => [0xCD, loByte nn, hiByte nn]
  | .adcA_d8 n => [0xCE, n]
  | .rst08 => [0xCF]
  | .retNC => [0xD0]
  | .popDE => [0xD1]
  | .jpNC_a16 nn => [0xD2, loByte nn, hiByte nn]
  | .undefD3 => [0xD3]
  | .callNC_a16 nn => [0xD4, loByte nn, hiByte nn]
  | .pushDE => [0xD5]
  | .sub_d8 n => [0xD6, n]
  | .rst10 => [0xD7]
  | .retC => [0xD8]
  | .reti => [0xD9]
  | .jpC_a16 nn => [0xDA, loByte nn, hiByte nn]
  | .undefDB => [0xDB]
  | .callC_a16 nn => [0xDC, loByte nn, hiByte nn]
  | .undefDD => [0xDD]
  | .sbcA_d8 n => [0xDE, n]
  | .rst18 => [0xDF]
  | .ldhAtA8_A o => [0xE0, o]
  | .popHL => [0xE1]
  | .ldAtC_A => [0xE2]
  | .undefE3 => [0xE3]
  | .undefE4 => [0xE4]
  | .pushHL => [0xE5]
  | .and_d8 n => [0xE6, n]
  | .rst20 => [0xE7]
  | .addSP_r8 d => [0xE8, d]
  | .jpHL => [0xE9]
  | .ldAtA16_A nn => [0xEA, loByte nn, hiByte nn]
  | .undefEB => [0xEB]
  | .undefEC => [0xEC]
  | .undefED => [0xED]
  | .xor_d8 n => [0xEE, n]
  | .rst28 => [0xEF]
  | .ldhA_AtA8 o => [0xF0, o]
  | .popAF => [0xF1]
  | .ldA_AtC => [0xF2]
  | .di => [0xF3]
  | .undefF4 => [0xF4]
  | .pushAF => [0xF5]
  | .or_d8 n => [0xF6, n]
  | .rst30 => [0xF7]
  | .ldHL_SPr8 d => [0xF8, d]
  | .ldSP_HL => [0xF9]
  | .ldA_AtA16 nn => [0xFA, loByte nn, hiByte nn]
  | .ei => [0xFB]
  | .undefFC => [0xFC]
  | .undefFD => [0xFD]
  | .cp_d8 n => [0xFE, n]
  | .rst38 => [0xFF]
  | .rlcB => [0xCB, 0x00]
  | .rlcC => [0xCB, 0x01]
  | .rlcD => [0xCB, 0x02]
  | .rlcE => [0xCB, 0x03]
  | .rlcH => [0xCB, 0x04]
  | .rlcL => [0xCB, 0x05]
  | .rlcAtHL => [0xCB, 0x06]
  | .rlcA => [0xCB, 0x07]
  | .rrcB => [0xCB, 0x08]
  | .rrcC => [0xCB, 0x09]
  | .rrcD => [0xCB, 0x0A]
  | .rrcE => [0xCB, 0x0B]
  | .rrcH => [0xCB, 0x0C]
  | .rrcL => [0xCB, 0x0D]
  | .rrcAtHL => [0xCB, 0x0E]
  | .rrcA => [0xCB, 0x0F]
  | .rlB => [0xCB, 0x10]
  | .rlC => [0xCB, 0x11]
  | .rlD => [0xCB, 0x12]
  | .rlE => [0xCB, 0x13]
  | .rlH => [0xCB, 0x14]
  | .rlL => [0xCB, 0x15]
  | .rlAtHL => [0xCB, 0x16]
  | .rlA => [0xCB, 0x17]
  | .rrB => [0xCB, 0x18]
  | .rrC => [0xCB, 0x19]
  | .rrD => [0xCB, 0x1A]
  | .rrE => [0xCB, 0x1B]
  | .rrH => [0xCB, 0x1C]
  | .rrL => [0xCB, 0x1D]
  | .rrAtHL => [0xCB, 0x1E]
  | .rrA => [0xCB, 0x1F]
  | .slaB => [0xCB, 0x20]
  | .slaC => [0xCB, 0x21]
  | .slaD => [0xCB, 0x22]
  | .slaE => [0xCB, 0x23]
  | .slaH => [0xCB, 0x24]
  | .slaL => [0xCB, 0x25]
  | .slaAtHL => [0xCB, 0x26]
  | .slaA => [0xCB, 0x27]
  | .sraB => [0xCB, 0x28]
  | .sraC => [0xCB, 0x29]
  | .sraD => [0xCB, 0x2A]
  | .sraE => [0xCB, 0x2B]
  | .sraH => [0xCB, 0x2C]
  | .sraL => [0xCB, 0x2D]
  | .sraAtHL => [0xCB, 0x2E]
  | .sraA => [0xCB, 0x2F]
  | .swapB => [0xCB, 0x30]
  | .swapC => [0xCB, 0x31]
  | .swapD => [0xCB, 0x32]
  | .swapE => [0xCB, 0x33]
  | .swapH => [0xCB, 0x34]
  | .swapL => [0xCB, 0x35]
  | .swapAtHL => [0xCB, 0x36]
  | .swapA => [0xCB, 0x37]
  | .srlB => [0xCB, 0x38]
  | .srlC => [0xCB, 0x39]
  | .srlD => [0xCB, 0x3A]
  | .srlE => [0xCB, 0x3B]
  | .srlH => [0xCB, 0x3C]
  | .srlL => [0xCB, 0x3D]
  | .srlAtHL => [0xCB, 0x3E]
  | .srlA => [0xCB, 0x3F]
  | .bit0_B => [0xCB, 0x40]
  | .bit0_C => [0xCB, 0x41]
  | .bit0_D => [0xCB, 0x42]
  | .bit0_E => [0xCB, 0x43]
  | .bit0_H => [0xCB, 0x44]
  | .bit0_L => [0xCB, 0x45]
  | .bit0_AtHL => [0xCB, 0x46]
  | .bit0_A => [0xCB, 0x47]
  | .bit1_B => [0xCB, 0x48]
  | .bit1_C => [0xCB, 0x49]
  | .bit1_D => [0xCB, 0x4A]
  | .bit1_E => [0xCB, 0x4B]
  | .bit1_H => [0xCB, 0x4C]
  | .bit1_L => [0xCB, 0x4D]
  | .bit1_AtHL => [0xCB, 0x4E]
  | .bit1_A => [0xCB, 0x4F]
  | .bit2_B => [0xCB, 0x50]
  | .bit2_C => [0xCB, 0x51]
  | .bit2_D => [0xCB, 0x52]
  | .bit2_E => [0xCB, 0x53]
  | .bit2_H => [0xCB, 0x54]
  | .bit2_L => [0xCB, 0x55]
  | .bit2_AtHL => [0xCB, 0x56]
  | .bit2_A => [0xCB, 0x57]
  | .bit3_B => [0xCB, 0x58]
  | .bit3_C => [0xCB, 0x59]
  | .bit3_D => [0xCB, 0x5A]
  | .bit3_E => [0xCB, 0x5B]
  | .bit3_H => [0xCB, 0x5C]
  | .bit3_L => [0xCB, 0x5D]
  | .bit3_AtHL => [0xCB, 0x5E]
  | .bit3_A => [0xCB, 0x5F]
  | .bit4_B => [0xCB, 0x60]
  | .bit4_C => [0xCB, 0x61]
  | .bit4_D => [0xCB, 0x62]
  | .bit4_E => [0xCB, 0x63]
  | .bit4_H => [0xCB, 0x64]
  | .bit4_L => [0xCB, 0x65]
  | .bit4_AtHL => [0xCB, 0x66]
  | .bit4_A => [0xCB, 0x67]
  | .bit5_B => [0xCB, 0x68]
  | .bit5_C => [0xCB, 0x69]
  | .bit5_D => [0xCB, 0x6A]
  | .bit5_E => [0xCB, 0x6B]
  | .bit5_H => [0xCB, 0x6C]
  | .bit5_L => [0xCB, 0x6D]
  | .bit5_AtHL => [0xCB, 0x6E]
  | .bit5_A => [0xCB, 0x6F]
  | .bit6_B => [0xCB, 0x70]
  | .bit6_C => [0xCB, 0x71]
  | .bit6_D => [0xCB, 0x72]
  | .bit6_E => [0xCB, 0x73]
  | .bit6_H => [0xCB, 0x74]
  | .bit6_L => [0xCB, 0x75]
  | .bit6_AtHL => [0xCB, 0x76]
  | .bit6_A => [0xCB, 0x77]
  | .bit7_B => [0xCB, 0x78]
  | .bit7_C => [0xCB, 0x79]
  | .bit7_D => [0xCB, 0x7A]
  | .bit7_E => [0xCB, 0x7B]
  | .bit7_H => [0xCB, 0x7C]
  | .bit7_L => [0xCB, 0x7D]
  | .bit7_AtHL => [0xCB, 0x7E]
  | .bit7_A => [0xCB, 0x7F]
  | .res0_B => [0xCB, 0x80]
  | .res0_C => [0xCB, 0x81]
  | .res0_D => [0xCB, 0x82]
  | .res0_E => [0xCB, 0x83]
  | .res0_H => [0xCB, 0x84]
  | .res0_L => [0xCB, 0x85]
  | .res0_AtHL => [0xCB, 0x86]
  | .res0_A => [0xCB, 0x87]
  | .res1_B => [0xCB, 0x88]
  | .res1_C => [0xCB, 0x89]
  | .res1_D => [0xCB, 0x8A]
  | .res1_E => [0xCB, 0x8B]
  | .res1_H => [0xCB, 0x8C]
  | .res1_L => [0xCB, 0x8D]
  | .res1_AtHL => [0xCB, 0x8E]
  | .res1_A => [0xCB, 0x8F]
  | .res2_B => [0xCB, 0x90]
  | .res2_C => [0xCB, 0x91]
  | .res2_D => [0xCB, 0x92]
  | .res2_E => [0xCB, 0x93]
  | .res2_H => [0xCB, 0x94]
  | .res2_L => [0xCB, 0x95]
  | .res2_AtHL => [0xCB, 0x96]
  | .res2_A => [0xCB, 0x97]
  | .res3_B => [0xCB, 0x98]
  | .res3_C => [0xCB, 0x99]
  | .res3_D => [0xCB, 0x9A]
  | .res3_E => [0xCB, 0x9B]
  | .res3_H => [0xCB, 0x9C]
  | .res3_L => [0xCB, 0x9D]
  | .res3_AtHL => [0xCB, 0x9E]
  | .res3_A => [0xCB, 0x9F]
  | .res4_B => [0xCB, 0xA0]
  | .res4_C => [0xCB, 0xA1]
  | .res4_D => [0xCB, 0xA2]
  | .res4_E => [0xCB, 0xA3]
  | .res4_H => [0xCB, 0xA4]
  | .res4_L => [0xCB, 0xA5]
  | .res4_AtHL => [0xCB, 0xA6]
  | .res4_A => [0xCB, 0xA7]
  | .res5_B => [0xCB, 0xA8]
  | .res5_C => [0xCB, 0xA9]
  | .res5_D => [0xCB, 0xAA]
  | .res5_E => [0xCB, 0xAB]
  | .res5_H => [0xCB, 0xAC]
  | .res5_L => [0xCB, 0xAD]
  | .res5_AtHL => [0xCB, 0xAE]
  | .res5_A => [0xCB, 0xAF]
  | .res6_B => [0xCB, 0xB0]
  | .res6_C => [0xCB, 0xB1]
  | .res6_D => [0xCB, 0xB2]
  | .res6_E => [0xCB, 0xB3]
  | .res6_H => [0xCB, 0xB4]
  | .res6_L => [0xCB, 0xB5]
  | .res6_AtHL => [0xCB, 0xB6]
  | .res6_A => [0xCB, 0xB7]
  | .res7_B => [0xCB, 0xB8]
  | .res7_C => [0xCB, 0xB9]
  | .res7_D => [0xCB, 0xBA]
  | .res7_E => [0xCB, 0xBB]
  | .res7_H => [0xCB, 0xBC]
  | .res7_L => [0xCB, 0xBD]
  | .res7_AtHL => [0xCB, 0xBE]
  | .res7_A => [0xCB, 0xBF]
  | .set0_B => [0xCB, 0xC0]
  | .set0_C => [0xCB, 0xC1]
  | .set0_D => [0xCB, 0xC2]
  | .set0_E => [0xCB, 0xC3]
  | .set0_H => [0xCB, 0xC4]
  | .set0_L => [0xCB, 0xC5]
  | .set0_AtHL => [0xCB, 0xC6]
  | .set0_A => [0xCB, 0xC7]
  | .set1_B => [0xCB, 0xC8]
  | .set1_C => [0xCB, 0xC9]
  | .set1_D => [0xCB, 0xCA]
  | .set1_E => [0xCB, 0xCB]
  | .set1_H => [0xCB, 0xCC]
  | .set1_L => [0xCB, 0xCD]
  | .set1_AtHL => [0xCB, 0xCE]
  | .set1_A => [0xCB, 0xCF]
  | .set2_B => [0xCB, 0xD0]
  | .set2_C => [0xCB, 0xD1]
  | .set2_D => [0xCB, 0xD2]
  | .set2_E => [0xCB, 0xD3]
  | .set2_H => [0xCB, 0xD4]
  | .set2_L => [0xCB, 0xD5]
  | .set2_AtHL => [0xCB, 0xD6]
  | .set2_A => [0xCB, 0xD7]
  | .set3_B => [0xCB, 0xD8]
  | .set3_C => [0xCB, 0xD9]
  | .set3_D => [0xCB, 0xDA]
  | .set3_E => [0xCB, 0xDB]
  | .set3_H => [0xCB, 0xDC]
  | .set3_L => [0xCB, 0xDD]
  | .set3_AtHL => [0xCB, 0xDE]
  | .set3_A => [0xCB, 0xDF]
  | .set4_B => [0xCB, 0xE0]
  | .set4_C => [0xCB, 0xE1]
  | .set4_D => [0xCB, 0xE2]
  | .set4_E => [0xCB, 0xE3]
  | .set4_H => [0xCB, 0xE4]
  | .set4_L => [0xCB, 0xE5]
  | .set4_AtHL => [0xCB, 0xE6]
  | .set4_A => [0xCB, 0xE7]
  | .set5_B => [0xCB, 0xE8]
  | .set5_C => [0xCB, 0xE9]
  | .set5_D => [0xCB, 0xEA]
  | .set5_E => [0xCB, 0xEB]
  | .set5_H => [0xCB, 0xEC]
  | .set5_L => [0xCB, 0xED]
  | .set5_AtHL => [0xCB, 0xEE]
  | .set5_A => [0xCB, 0xEF]
  | .set6_B => [0xCB, 0xF0]
  | .set6_C => [0xCB, 0xF1]
  | .set6_D => [0xCB, 0xF2]
  | .set6_E => [0xCB, 0xF3]
  | .set6_H => [0xCB, 0xF4]
  | .set6_L => [0xCB, 0xF5]
  | .set6_AtHL => [0xCB, 0xF6]
  | .set6_A => [0xCB, 0xF7]
  | .set7_B => [0xCB, 0xF8]
  | .set7_C => [0xCB, 0xF9]
  | .set7_D => [0xCB, 0xFA]
  | .set7_E => [0xCB, 0xFB]
  | .set7_H => [0xCB, 0xFC]
  | .set7_L => [0xCB, 0xFD]
  | .set7_AtHL => [0xCB, 0xFE]
  | .set7_A => [0xCB, 0xFF]

/-! ## The opcode table's words -/

/-- The bytes, at increasing addresses and zero beyond, of an instruction whose bits are `w` as
spec/opcode_table.json numbers them. A two-byte word of the table has its prefix byte 0xCB in bits 15..8 (R161);
any other word has its first byte in bits 7..0. -/
def tableBytes (nbits w : Nat) : List Byte :=
  let v := w % 2 ^ nbits
  if nbits = 16 ∧ v / 256 = 0xCB then [0xCB#8, BitVec.ofNat 8 v, 0#8]
  else [BitVec.ofNat 8 v, BitVec.ofNat 8 (v / 256), BitVec.ofNat 8 (v / 65536)]

/-- The instruction the decoder reads from a word of the table. -/
def decodeTableWord (nbits w : Nat) : Option Instr :=
  match decode (tableBytes nbits w) with
  | .instr i _ => some i
  | .rejected _ => none

end Sys2Proof
end

