-- ==== Sys2Proof/Machine/Misc.lean ====
section
/-!
DEFINITION. Processor control, the prefix and the undefined opcodes (spec 47_misc.md R380 to R387).
-/

namespace Sys2Proof.Machine

/-- Execute the extended instruction of a byte after the prefix, by its fields (R152, R385). -/
def extended (e : Byte) (s : State) : Result :=
  let y := e.toNat / 8 % 8
  let operand := locOfCode (e.toNat % 8)
  match e.toNat / 64 with
  | 0 => rotateLoc (rotOfCode y) operand s
  | 1 => bitTest (indexOfCode y) operand s
  | 2 => bitReset (indexOfCode y) operand s
  | _ => bitSet (indexOfCode y) operand s

/-- NOP (0x00): R380. -/
def execNop (s : State) : Result := .next (s.report 4)

/-- STOP (0x10): R382. -/
def execStop (_pad : Byte) (s : State) : Result := .next ((s.emit .stopReq).report 4)

/-- HALT (0x76): R381. -/
def execHalt (s : State) : Result := .next ({ s with halted := true }.report 4)

/-- PREFIX CB (0xCB): R385. -/
def execPrefixCB (e : Byte) (s : State) : Result := extended e s

/-- undefined 0xD3 (0xD3): R387. -/
def execUndefD3 (s : State) : Result := .next (s.report 0)

/-- undefined 0xDB (0xDB): R387. -/
def execUndefDB (s : State) : Result := .next (s.report 0)

/-- undefined 0xDD (0xDD): R387. -/
def execUndefDD (s : State) : Result := .next (s.report 0)

/-- undefined 0xE3 (0xE3): R387. -/
def execUndefE3 (s : State) : Result := .next (s.report 0)

/-- undefined 0xE4 (0xE4): R387. -/
def execUndefE4 (s : State) : Result := .next (s.report 0)

/-- undefined 0xEB (0xEB): R387. -/
def execUndefEB (s : State) : Result := .next (s.report 0)

/-- undefined 0xEC (0xEC): R387. -/
def execUndefEC (s : State) : Result := .next (s.report 0)

/-- undefined 0xED (0xED): R387. -/
def execUndefED (s : State) : Result := .next (s.report 0)

/-- DI (0xF3): R383. -/
def execDi (s : State) : Result := .next ({ s with ime := false }.report 4)

/-- undefined 0xF4 (0xF4): R387. -/
def execUndefF4 (s : State) : Result := .next (s.report 0)

/-- EI (0xFB): R384. -/
def execEi (s : State) : Result := .next ({ s with ime := true }.report 4)

/-- undefined 0xFC (0xFC): R387. -/
def execUndefFC (s : State) : Result := .next (s.report 0)

/-- undefined 0xFD (0xFD): R387. -/
def execUndefFD (s : State) : Result := .next (s.report 0)

end Sys2Proof.Machine
end

