-- ==== Sys2Proof/Machine/Fetch.lean ====
section
/-!
DEFINITION. Fetching an instruction's bytes (spec 00_scope.md R16, 60_exceptions.md R402), and the state with given
bytes stored where the next fetch looks.
-/

namespace Sys2Proof.Machine

/-- The state `Fetch8()` leaves: the read's, with PC advanced by one modulo 2^16. The byte it gives is
`s.readByte s.pc` (R16, R37). -/
def State.afterFetch (s : State) : State := { s.afterRead s.pc with pc := s.pc + 1 }

/-- The bytes of the instruction at PC, each fetched in address order through the address decoder, and the state
after the last (R142, R157, R402). -/
def State.fetchBytes (s : State) : List Byte × State :=
  let op := s.readByte s.pc
  let s1 := s.afterFetch
  match instrLength op with
  | 1 => ([op], s1)
  | 2 => ([op, s1.readByte s1.pc], s1.afterFetch)
  | _ =>
    let s2 := s1.afterFetch
    ([op, s1.readByte s1.pc, s2.readByte s2.pc], s2.afterFetch)

/-- Load a byte from outside the machine into the storage an address names, ROM and boot image included; an address
with no storage keeps what it has (notes/assumptions/4.md). -/
def State.placeByte (s : State) (a : Word) (v : Byte) : State :=
  match s.cellAt a with
  | some (.rom, i) => { s with par := { s.par with rom := s.par.rom.write i v } }
  | some (.boot, i) => { s with par := { s.par with boot := s.par.boot.write i v } }
  | some x => s.setCell x v
  | none =>
    match region a with
    | .ifReg => { s with ifReg := v }
    | .ieReg => { s with ieReg := v }
    | .romLow _ | .romHigh _ | .vram _ | .eram _ | .wramLow _ | .wramHigh _ | .oam _ | .hram _
    | .periph _ | .vramSelect | .bootUnmap | .wramSelect | .unmapped => s

/-- Load bytes at increasing addresses. -/
def State.placeBytes (s : State) (a : Word) : List Byte → State
  | [] => s
  | v :: vs => (s.placeByte a v).placeBytes (a + 1) vs

end Sys2Proof.Machine
end

