-- ==== Sys2Proof/Machine/Run.lean ====
section
/-!
DEFINITION. What one activation of the block does while FAULT = NONE (spec 60_exceptions.md R400): an interrupt
service, a parked tick, or one whole instruction.
-/

namespace Sys2Proof.Machine

/-- The state a step starts from: the last step's outputs are gone and the environment's next request is in IF
(R10, R11, R13). -/
def State.beginStep (s : State) : State := { s with events := [], cycles := 0 }.presentRequests

/-- The wake of R400: a pending enabled source clears HALTED, whether or not IME is set. -/
def State.wake (s : State) : State := if s.pending = 0 then s else { s with halted := false }

/-- Outcome 3 of R400: fetch the instruction at PC and execute it. The bytes fetched are as many as their first one
asks for, so the rejection, which would be the NO_HANDLER stop of R431, does not occur. -/
def State.runInstr (s : State) : Result :=
  match decode s.fetchBytes.1 with
  | .instr i _ => exec i s.fetchBytes.2
  | .rejected _ => .fault .noHandler

/-- Whether the interrupt check of R400 takes a source (R411). -/
def State.takesInterrupt (s : State) : Bool := s.ime && decide (s.pending ≠ 0)

/-- The step algorithm with FAULT = NONE (R400). -/
def State.runStep (s : State) : Result :=
  let t := s.beginStep.wake
  if t.takesInterrupt then .next (t.serviceInterrupt (leastSource t.pending))
  else if t.halted then .next (t.report 4)
  else t.runInstr

/-- The machine running and not about to service an interrupt, everything else as it is. -/
def State.readyToFetch (s : State) : State :=
  let awake := { s with faultLatch := .none, halted := false }
  { awake with ime := awake.ime && decide (awake.beginStep.pending = 0) }

/-- The host asserts reset: a fresh allocation with the attached parameters (R14, R450). -/
def State.hostReset (s : State) : State := State.resetWith s.par

end Sys2Proof.Machine
end

