-- ==== Sys2Proof/Machine/Step.lean ====
section
/-!
DEFINITION. One step of the block (spec 60_exceptions.md R400, R430), and the state whose next step runs a given
instruction.
-/

namespace Sys2Proof.Machine

/-- One step (R400, R430): while FAULT is not NONE no step runs. -/
def step (s : State) : Host.Outcome State Fault Refusal :=
  match s.faultLatch with
  | .none => s.runStep
  | .badCartType => .fault .badCartType
  | .badCartSize => .fault .badCartSize
  | .noHandler => .fault .noHandler

/-- `s` with the instruction whose bits are `w` stored at PC, where the next step fetches it, and the machine running
and not about to service an interrupt, so that the next step runs exactly it (notes/assumptions/4.md). -/
def State.withFetchWord (s : State) (nbits w : Nat) : State := (s.placeBytes s.pc (tableBytes nbits w)).readyToFetch

end Sys2Proof.Machine
end

