-- ==== Sys2Proof/Safety.lean ====
section
/-!
DEFINITION. The terms the claims are stated in: what a well-kept state is, what its parameters must be, what a store
can reach, which registers, flags and bytes of memory an instruction may write. Each is written from the rules of the
spec it cites, not from the meanings.
-/

namespace Sys2Proof.Machine

/-! ## Parameters and invariant -/

/-- Every listed index is below `n`. -/
def memWithin (n : Nat) (m : Memory) : Bool := m.all fun x => decide (x.1 < n)

/-- N_VRAM (R8). -/
def vramBanks (p : Params) : Nat := if p.colorMode then 2 else 1

/-- A memory array in canonical form and inside its size. -/
def arrayOk (n : Nat) (m : Memory) : Bool := m.wf && memWithin n m

/-- What R7, R8 and R46 ask of the parameters: bank counts that are powers of two, N_ROM two or more, and every image
inside the array it fills. -/
structure ParamsOk (p : Params) : Prop where
  romCount : ∃ k, 1 ≤ k ∧ p.nRom = 2 ^ k
  eramCount : p.nEram = 0 ∨ ∃ k, p.nEram = 2 ^ k
  rom : arrayOk (16384 * p.nRom) p.rom = true
  boot : arrayOk (bootBytes p.bootSize) p.boot = true
  eram : arrayOk (8192 * p.nEram) p.eramInit = true
  vram : arrayOk (8192 * vramBanks p) p.initVram = true
  wram : arrayOk (4096 * 8) p.initWram = true
  oam : arrayOk 160 p.initOam = true
  hram : arrayOk 127 p.initHram = true

/-- The kind of the active controller's registers (R101). -/
def mbcKind : Mbc → MbcKind
  | .none => .none
  | .mbc1 _ => .mbc1
  | .mbc3 _ => .mbc3
  | .mbc5 _ => .mbc5

/-- The registers that are never 0 (R52, R53). -/
def mbcAliased : Mbc → Prop
  | .none => True
  | .mbc1 r => r.bankLo ≠ 0
  | .mbc3 r => r.romBank ≠ 0
  | .mbc5 _ => True

/-- ROM1_SEL and ERAM_SEL as the controller's registers give them (R51, R104, R109, R110, R111). -/
def mappingOf (p : Params) : Mbc → Nat × Nat
  | .none => (1, 0)
  | .mbc1 r =>
    if r.mode then
      (r.bankLo.toNat &&& bankMask p.nRom, if p.nEram = 0 then 0 else r.bankHi.toNat &&& bankMask p.nEram)
    else ((r.bankHi.toNat * 32 + r.bankLo.toNat) &&& bankMask p.nRom, 0)
  | .mbc3 r =>
    (r.romBank.toNat &&& bankMask p.nRom, if p.nEram = 0 then 0 else r.ramBank.toNat &&& bankMask p.nEram)
  | .mbc5 r =>
    ((r.romBankHi.toNat * 256 + r.romBankLo.toNat) &&& bankMask p.nRom,
      if p.nEram = 0 then 0 else r.ramBank.toNat &&& bankMask p.nEram)

/-- What holds in every state a run reaches from a reset with sound parameters. -/
structure Inv (s : State) : Prop where
  /-- The parameters are sound (R7, R8). -/
  params : ParamsOk s.par
  /-- F's low nibble is zero (R31). -/
  flagsLow : s.f &&& 0x0F#8 = 0#8
  /-- Each array is in canonical form and inside its size (R46). -/
  vram : arrayOk (8192 * vramBanks s.par) s.vram = true
  eram : arrayOk (8192 * s.par.nEram) s.eram = true
  wram : arrayOk (4096 * 8) s.wram = true
  oam : arrayOk 160 s.oam = true
  hram : arrayOk 127 s.hram = true
  /-- The active controller is the session's (R101). -/
  kind : mbcKind s.mbc = s.par.kind
  /-- BANK_LO and ROM_BANK are never 0 (R52, R53). -/
  aliased : mbcAliased s.mbc
  /-- The mapping is the one the controller's registers give (R103). -/
  mapping : (s.rom1Sel, s.eramSel) = mappingOf s.par s.mbc
  /-- WRAM_SEL is 1 to 7 (R50). -/
  wramSel : s.wramSel ≠ 0
  /-- Outside colour mode the two selects keep their reset values (R44, R45). -/
  mono : s.par.colorMode = false → s.vramSel = 0 ∧ s.wramSel = 1
  /-- No overlay without a boot image (R50, R60). -/
  overlay : s.par.bootSize = .absent → s.bootActive = false

/-- The number of cells of a physical array (R46). -/
def storeSize (p : Params) : Store → Nat
  | .rom => 16384 * p.nRom
  | .boot => bootBytes p.bootSize
  | .vram => 8192 * vramBanks p
  | .eram => 8192 * p.nEram
  | .wram => 4096 * 8
  | .oam => 160
  | .hram => 127

/-! ## What a store can reach -/

/-- The peripheral whose port range holds an address, by the ranges of R12. -/
def portOf (a : Word) : Option Peripheral :=
  let n := a.toNat
  if n = 0xFF00 then some .joypad
  else if 0xFF01 ≤ n ∧ n ≤ 0xFF02 then some .serial
  else if 0xFF04 ≤ n ∧ n ≤ 0xFF07 then some .timer
  else if 0xFF10 ≤ n ∧ n ≤ 0xFF3F then some .audio
  else if 0xFF40 ≤ n ∧ n ≤ 0xFF4B then some .display
  else none

/-- The addresses nothing claims in every session: the gap of R93 and the holes of the register page (R94, R97). -/
def unclaimed (a : Word) : Bool :=
  let n := a.toNat
  decide ((0xFEA0 ≤ n ∧ n ≤ 0xFEFF) ∨ n = 0xFF03 ∨ (0xFF08 ≤ n ∧ n ≤ 0xFF0E) ∨ (0xFF4C ≤ n ∧ n ≤ 0xFF4E) ∨
    (0xFF51 ≤ n ∧ n ≤ 0xFF6F) ∨ (0xFF71 ≤ n ∧ n ≤ 0xFF7F))

/-- Whether an access at `a` is forwarded to a present peripheral (R95, R96): what a read there returns is the
environment's, and no claim is made about it. -/
def State.forwards (s : State) (a : Word) : Bool :=
  match region a with
  | .periph p => isAttached s.par.attached p
  | _ => false

/-- Whether a byte stored at `a` lands in a physical array or one of the registers IF and IE. -/
def State.storable (s : State) (a : Word) : Bool :=
  match region a with
  | .vram _ | .wramLow _ | .wramHigh _ | .oam _ | .hram _ | .ifReg | .ieReg => true
  | .eram _ => decide (s.par.nEram ≠ 0) && ramEnabled s.mbc
  | _ => false

/-- Whether `a` names a cell of a writable array that a store at `a` changes: VRAM, enabled external RAM, WRAM, OAM
or HRAM. -/
def State.isRam (s : State) (a : Word) : Bool :=
  match region a with
  | .vram _ | .wramLow _ | .wramHigh _ | .oam _ | .hram _ => true
  | .eram _ => decide (s.par.nEram ≠ 0) && ramEnabled s.mbc
  | _ => false

/-- What a store at `a` may make read differently at `b` (R79): a ROM-range write, the switched banks; a store in a
memory array, every address that names the same cell (the mirror of R91 among them); a register write, the register;
a select write, the region it selects for; the boot unmap, the overlaid region; anything else, nothing. -/
def State.reaches (s : State) (a b : Word) : Prop :=
  match region a with
  | .romLow _ | .romHigh _ => (∃ o, region b = .romHigh o) ∨ (∃ o, region b = .eram o)
  | .vram _ | .eram _ | .wramLow _ | .wramHigh _ | .oam _ | .hram _ =>
    ∃ x, s.cellAt a = some x ∧ s.cellAt b = some x
  | .ifReg | .ieReg => b = a
  | .vramSelect => ∃ o, region b = .vram o
  | .wramSelect => ∃ o, region b = .wramHigh o
  | .bootUnmap => ∃ o, region b = .romLow o
  | .periph _ | .unmapped => False

/-! ## Bit movements and decimal digits -/

/-- Which bit comes to stand at place `i` under each rotate and shift, `ci` the old carry (R310). -/
def movedBit (k : RotKind) (ci : Bool) (v : Byte) (i : Nat) : Bool :=
  match k with
  | .rlc => v.getLsbD ((i + 7) % 8)
  | .rrc => v.getLsbD ((i + 1) % 8)
  | .rl => if i = 0 then ci else v.getLsbD (i - 1)
  | .rr => if i = 7 then ci else v.getLsbD (i + 1)
  | .sla => if i = 0 then false else v.getLsbD (i - 1)
  | .sra => if i = 7 then v.getLsbD 7 else v.getLsbD (i + 1)
  | .swap => v.getLsbD ((i + 4) % 8)
  | .srl => if i = 7 then false else v.getLsbD (i + 1)

/-- The bit shifted out; SWAP shifts none (R310). -/
def shiftedOut (k : RotKind) (v : Byte) : Bool :=
  match k with
  | .rlc | .rl | .sla => v.getLsbD 7
  | .rrc | .rr | .sra | .srl => v.getLsbD 0
  | .swap => false

/-- A number below 100 as two decimal digits in a byte. -/
def decimalByte (n : Nat) : Byte := BitVec.ofNat 8 (16 * (n / 10) + n % 10)

/-! ## What an instruction may write -/

/-- The eleven undefined primary opcodes (R155). -/
def undefinedInstrs : List Instr :=
  [.undefD3, .undefDB, .undefDD, .undefE3, .undefE4, .undefEB, .undefEC, .undefED, .undefF4, .undefFC, .undefFD]

/-- The fields x, y, z of an opcode byte (R142). -/
def opX (op : Byte) : Nat := op.toNat / 64
def opY (op : Byte) : Nat := op.toNat / 8 % 8
def opZ (op : Byte) : Nat := op.toNat % 8

/-- The register a code names, if it names one. -/
def codeReg (n : Nat) : List Reg8 :=
  match locOfCode n with
  | .reg r => [r]
  | .atHL => []

/-- The 8-bit halves of a pair code; SP and AF's F are no 8-bit operands (R32, R144). -/
def pairRegs (n : Nat) : List Reg8 :=
  match n with
  | 0 => [.b, .c]
  | 1 => [.d, .e]
  | 2 => [.h, .l]
  | _ => []

/-- The 8-bit registers a primary opcode writes (R63 and the Operation lines of R200 to R314). -/
def primaryDests (op : Byte) : List Reg8 :=
  let y := opY op
  match opX op, opZ op with
  | 0, 1 => if y % 2 = 0 then pairRegs (y / 2) else [.h, .l]
  | 0, 2 => (if y % 2 = 1 then [.a] else []) ++ (if y ≥ 4 then [.h, .l] else [])
  | 0, 3 => pairRegs (y / 2)
  | 0, 4 | 0, 5 | 0, 6 => codeReg y
  | 0, 7 => if y < 6 then [.a] else []
  | 1, _ => codeReg y
  | 2, _ => if y = 7 then [] else [.a]
  | 3, 0 => if y = 6 then [.a] else if y = 7 then [.h, .l] else []
  | 3, 1 => if y % 2 = 1 then [] else if y = 6 then [.a] else pairRegs (y / 2)
  | 3, 2 => if y = 6 ∨ y = 7 then [.a] else []
  | 3, 6 => if y = 7 then [] else [.a]
  | _, _ => []

/-- The 8-bit registers an instruction writes. -/
def destRegs (i : Instr) : List Reg8 :=
  match encode i with
  | op :: rest =>
    if op = 0xCB#8 then
      match rest with
      | e :: _ => if opX e = 1 then [] else codeReg (opZ e)
      | [] => []
    else primaryDests op
  | [] => []

/-- What an instruction does to one flag (R160). -/
inductive FlagEffect where
  | kept | cleared | isSet | computed
deriving DecidableEq, Repr

/-- A row of the flag summary (R160). -/
structure FlagRow where
  z : FlagEffect
  n : FlagEffect
  h : FlagEffect
  c : FlagEffect
deriving DecidableEq, Repr

/-- All four flags unchanged. -/
def FlagRow.none : FlagRow := ⟨.kept, .kept, .kept, .kept⟩

/-- The rows of the accumulator operations (R160). -/
def aluFlagRow (y : Nat) : FlagRow :=
  match y with
  | 0 | 1 => ⟨.computed, .cleared, .computed, .computed⟩
  | 4 => ⟨.computed, .cleared, .isSet, .cleared⟩
  | 5 | 6 => ⟨.computed, .cleared, .cleared, .cleared⟩
  | _ => ⟨.computed, .isSet, .computed, .computed⟩

/-- The flag summary of the primary opcodes (R160). -/
def primaryFlagRow (op : Byte) : FlagRow :=
  let y := opY op
  match opX op, opZ op with
  | 0, 1 => if y % 2 = 1 then ⟨.kept, .cleared, .computed, .computed⟩ else .none
  | 0, 4 => ⟨.computed, .cleared, .computed, .kept⟩
  | 0, 5 => ⟨.computed, .isSet, .computed, .kept⟩
  | 0, 7 =>
    match y with
    | 4 => ⟨.computed, .kept, .cleared, .computed⟩
    | 5 => ⟨.kept, .isSet, .isSet, .kept⟩
    | 6 => ⟨.kept, .cleared, .cleared, .isSet⟩
    | 7 => ⟨.kept, .cleared, .cleared, .computed⟩
    | _ => ⟨.cleared, .cleared, .cleared, .computed⟩
  | 2, _ => aluFlagRow y
  | 3, 6 => aluFlagRow y
  | 3, 0 => if y = 5 ∨ y = 7 then ⟨.cleared, .cleared, .computed, .computed⟩ else .none
  | 3, 1 => if y = 6 then ⟨.computed, .computed, .computed, .computed⟩ else .none
  | _, _ => .none

/-- The flag summary of the extended opcodes (R160). -/
def extendedFlagRow (e : Byte) : FlagRow :=
  match opX e with
  | 0 => if opY e = 6 then ⟨.computed, .cleared, .cleared, .cleared⟩ else ⟨.computed, .cleared, .cleared, .computed⟩
  | 1 => ⟨.computed, .cleared, .isSet, .kept⟩
  | _ => .none

/-- The row of the flag summary an instruction stands in (R160). -/
def flagRow (i : Instr) : FlagRow :=
  match encode i with
  | op :: rest =>
    if op = 0xCB#8 then
      match rest with
      | e :: _ => extendedFlagRow e
      | [] => .none
    else primaryFlagRow op
  | [] => .none

/-- A flag before and after, as its row allows. -/
def FlagEffect.allows (k : FlagEffect) (before after : Bool) : Prop :=
  match k with
  | .kept => after = before
  | .cleared => after = false
  | .isSet => after = true
  | .computed => True

/-- The addresses an instruction stores to, in order (R78): those of the byte stores, of the read-modify-write
instructions, and both bytes of the word stores. -/
def storedAddresses (s : State) (i : Instr) : List Word :=
  match i with
  | .ldAtA16_SP nn => [nn, nn + 1]
  | .ldAtA16_A nn => [nn]
  | .ldhAtA8_A o => [highPage o]
  | .ldAtC_A => [highPage s.c]
  | .ldAtBC_A => [s.bc]
  | .ldAtDE_A => [s.de]
  | .ldAtHLInc_A | .ldAtHLDec_A | .ldAtHL_d8 _ | .incAtHL | .decAtHL => [s.hl]
  | .ldAtHL_B | .ldAtHL_C | .ldAtHL_D | .ldAtHL_E | .ldAtHL_H | .ldAtHL_L | .ldAtHL_A => [s.hl]
  | .pushBC | .pushDE | .pushHL | .pushAF => [s.sp - 2, s.sp - 2 + 1]
  | .call_a16 _ | .rst00 | .rst08 | .rst10 | .rst18 | .rst20 | .rst28 | .rst30 | .rst38 => [s.sp - 2, s.sp - 2 + 1]
  | .callNZ_a16 _ => if s.flagZ then [] else [s.sp - 2, s.sp - 2 + 1]
  | .callZ_a16 _ => if s.flagZ then [s.sp - 2, s.sp - 2 + 1] else []
  | .callNC_a16 _ => if s.flagC then [] else [s.sp - 2, s.sp - 2 + 1]
  | .callC_a16 _ => if s.flagC then [s.sp - 2, s.sp - 2 + 1] else []
  | i =>
    match encode i with
    | [op, e] => if op = 0xCB#8 ∧ opZ e = 6 ∧ opX e ≠ 1 then [s.hl] else []
    | _ => []

/-- The instructions that write SP (R36). -/
def writesSp : Instr → Bool
  | .ldSP_d16 _ | .ldSP_HL | .addSP_r8 _ | .incSP | .decSP => true
  | .pushBC | .pushDE | .pushHL | .pushAF | .popBC | .popDE | .popHL | .popAF => true
  | .call_a16 _ | .callNZ_a16 _ | .callZ_a16 _ | .callNC_a16 _ | .callC_a16 _ => true
  | .ret | .retNZ | .retZ | .retNC | .retC | .reti => true
  | .rst00 | .rst08 | .rst10 | .rst18 | .rst20 | .rst28 | .rst30 | .rst38 => true
  | _ => false

/-- The instructions that write PC beyond the fetch: jumps, calls, returns, restarts (R350 to R361). -/
def writesPc : Instr → Bool
  | .jp_a16 _ | .jpNZ_a16 _ | .jpZ_a16 _ | .jpNC_a16 _ | .jpC_a16 _ | .jpHL => true
  | .jr_r8 _ | .jrNZ_r8 _ | .jrZ_r8 _ | .jrNC_r8 _ | .jrC_r8 _ => true
  | .call_a16 _ | .callNZ_a16 _ | .callZ_a16 _ | .callNC_a16 _ | .callC_a16 _ => true
  | .ret | .retNZ | .retZ | .retNC | .retC | .reti => true
  | .rst00 | .rst08 | .rst10 | .rst18 | .rst20 | .rst28 | .rst30 | .rst38 => true
  | _ => false

end Sys2Proof.Machine
end

