-- ==== Sys2Proof/Certificates/Slice0/Obligations.lean ====
section
/-!
DEFINITION. The claims about the block, each from the rules of the spec its docstring names. OBLIGATIONS.json says of
each whether it formalises a rule word for word (stated) or rests on rules that carry the spec's own marks, or on a
choice of this model (derived). Every instruction runs with PC past its last byte (R37), so `s.pc` here is PC_next.
-/

open Sys2Proof Sys2Proof.Machine

/-! ## Encoding -/

/-- Sixteen words written out from the `Encoding:` lines, one or more of every family, decode to the instruction they
stand for (R200, R202, R201, R209, R230, R234, R259, R279, R301, R321, R341, R344, R355, R357, R381, R387). -/
def Obligations.SampleWordsDecode : Prop :=
  decode [0x41#8] = .instr .ldB_C [] ∧ decode [0x66#8] = .instr .ldH_AtHL [] ∧
  decode [0x3E#8, 0x42#8] = .instr (.ldA_d8 0x42#8) [] ∧
  decode [0xFA#8, 0x0F#8, 0xFF#8] = .instr (.ldA_AtA16 0xFF0F#16) [] ∧
  decode [0x21#8, 0x34#8, 0x12#8] = .instr (.ldHL_d16 0x1234#16) [] ∧ decode [0xF5#8] = .instr .pushAF [] ∧
  decode [0xCE#8, 0x3B#8] = .instr (.adcA_d8 0x3B#8) [] ∧ decode [0x34#8] = .instr .incAtHL [] ∧
  decode [0x39#8] = .instr .addHL_SP [] ∧ decode [0xCB#8, 0x1F#8] = .instr .rrA [] ∧
  decode [0xCB#8, 0x76#8] = .instr .bit6_AtHL [] ∧ decode [0xCB#8, 0xCB#8] = .instr .set1_E [] ∧
  decode [0x20#8, 0xFC#8] = .instr (.jrNZ_r8 0xFC#8) [] ∧
  decode [0xD4#8, 0x00#8, 0x20#8] = .instr (.callNC_a16 0x2000#16) [] ∧
  decode [0x76#8] = .instr .halt [] ∧ decode [0xDD#8] = .instr .undefDD []

/-- Decoding the bytes of a well-formed instruction gives it back and leaves the bytes after it
(R140, R142, R146, R152, R157, R161). -/
def Obligations.EncodeThenDecode : Prop :=
  ∀ (i : Instr) (rest : List Byte), i.wellFormed = true → decode (encode i ++ rest) = .instr i rest

/-- Whatever the decoder accepts is the encoding of the instruction it names, which is well formed: each byte string
has one meaning (R140, R152, R161). -/
def Obligations.DecodeThenEncode : Prop :=
  ∀ (bytes : List Byte) (i : Instr) (rest : List Byte),
    decode bytes = .instr i rest → i.wellFormed = true ∧ bytes = encode i ++ rest

/-- Every value of the first byte is the start of an instruction whose length that byte alone gives, 1, 2 or 3
(R140, R142, R157). -/
def Obligations.EveryOpcodeDecodes : Prop :=
  ∀ (op lo hi : Byte) (rest : List Byte), (1 ≤ instrLength op ∧ instrLength op ≤ 3) ∧
    ∃ i, decode (op :: lo :: hi :: rest) = .instr i ((lo :: hi :: rest).drop (instrLength op - 1)) ∧
      (encode i).length = instrLength op

/-- The prefix and the byte after it are one instruction, the extended one: the decoder names it so, and the meaning of
the prefix row is that instruction's (R141, R385). -/
def Obligations.PrefixRunsTheExtended : Prop :=
  ∀ (e : Byte) (s : State), decode [0xCB#8, e] = .instr (decodeExtended e) [] ∧
    ∃ t, exec (.prefixCB e) s = .next t ∧ exec (decodeExtended e) s = .next t

/-! ## The step -/

/-- When nothing is serviced and the core is not parked, a step is the execution of the instruction that the fetched
bytes decode to, from the state the fetch leaves (R400, R402). -/
def Obligations.StepRunsDecodedInstruction : Prop :=
  ∀ (s : State) (i : Instr) (rest : List Byte), s.faultLatch = .none → s.beginStep.wake.takesInterrupt = false →
    s.beginStep.wake.halted = false → decode s.beginStep.wake.fetchBytes.1 = .instr i rest →
    step s = exec i s.beginStep.wake.fetchBytes.2

/-- The same for code in a physical array: if the cells from PC on hold the encoding of a well-formed instruction, the
step is that instruction's meaning with PC past its bytes and nothing else changed by the fetch
(R37, R128, R142, R400, R402). -/
def Obligations.StepRunsStoredInstruction : Prop :=
  ∀ (s t : State) (i : Instr), i.wellFormed = true → s.faultLatch = .none → t = s.beginStep.wake →
    t.takesInterrupt = false → t.halted = false →
    (∀ k, k < (encode i).length →
      ∃ x, t.cellAt (t.pc + BitVec.ofNat 16 k) = some x ∧ (encode i)[k]? = some (t.cell x)) →
    step s = exec i { t with pc := t.pc + BitVec.ofNat 16 (encode i).length }

/-- A fetch takes as many bytes as the opcode's length, each read through the address decoder at PC, PC + 1, PC + 2
modulo 2^16, moves PC past them and changes nothing else but the port fields (R16, R37, R157, R402). What a peripheral
answers to a fetch from its range is the environment's. -/
def Obligations.FetchReadsThroughTheDecoder : Prop :=
  ∀ (s : State), ∃ (n : Nat) (u : State), n = instrLength (s.readByte s.pc) ∧ s.fetchBytes.2 = u ∧
    s.fetchBytes.1.length = n ∧
    u = { s with pc := s.pc + BitVec.ofNat 16 n, periphIn := u.periphIn, periphCount := u.periphCount,
                 events := u.events } ∧
    ∀ k, k < n → (k = 0 ∨ s.forwards (s.pc + BitVec.ofNat 16 k) = false) →
      s.fetchBytes.1[k]? = some (s.readByte (s.pc + BitVec.ofNat 16 k))

/-- TAKING AN INTERRUPT. With the master enable set, the least source that is pending and enabled is taken: HALTED and
IME cleared, that one IF bit cleared, SP down by two, PC stored low byte at the lower address, PC at 0x40 + 8i, 16
cycles, and no instruction fetched (R400, R410, R411, R412). -/
def Obligations.StepServicesLeastSource : Prop :=
  ∀ (s t : State) (i : Nat), s.faultLatch = .none → t = s.beginStep → s.ime = true → i < 5 →
    (t.ieReg &&& t.ifReg).getLsbD i = true → (∀ j, j < i → (t.ieReg &&& t.ifReg).getLsbD j = false) →
    step s = .next
      { ({ t with halted := false, ime := false, ifReg := t.ifReg &&& ~~~(1#8 <<< i), sp := t.sp - 2 }.writeByte
          (t.sp - 2) (loByte t.pc)).writeByte (t.sp - 2 + 1) (hiByte t.pc) with
        pc := BitVec.ofNat 16 (0x40 + 8 * i), cycles := 16 }

/-- The document's scenario (R418): IF = IE = 0x01 and IME = 1. IF becomes 0x00 unless the push itself lands on 0xFF0F
(R412), and the two bytes are in memory where the stack is RAM. -/
def Obligations.ServiceScenario : Prop :=
  ∀ (s : State), Inv s → s.faultLatch = .none → s.beginStep.ifReg = 0x01#8 → s.ieReg = 0x01#8 → s.ime = true →
    ∃ t, step s = .next t ∧ t.pc = 0x0040#16 ∧ t.sp = s.sp - 2 ∧ t.ime = false ∧ t.cycles = 16 ∧ t.halted = false ∧
      (s.sp - 2 ≠ 0xFF0F#16 → s.sp - 1 ≠ 0xFF0F#16 → t.ifReg = 0x00#8) ∧
      (s.isRam (s.sp - 2) = true → s.isRam (s.sp - 1) = true →
        t.readByte (s.sp - 2) = loByte s.pc ∧ t.readByte (s.sp - 1) = hiByte s.pc)

/-- A halted core (R417): a pending enabled source is serviced in this step when IME is set, and otherwise ends the
halt with the same step executing the next instruction; with nothing pending the step returns 4 and changes nothing. -/
def Obligations.HaltParksOrWakes : Prop :=
  ∀ (s t : State), s.faultLatch = .none → s.halted = true → t = s.beginStep →
    (t.ieReg &&& t.ifReg &&& 0x1F#8 ≠ 0#8 → s.ime = true →
      step s = .next (t.serviceInterrupt (leastSource t.pending))) ∧
    (t.ieReg &&& t.ifReg &&& 0x1F#8 ≠ 0#8 → s.ime = false →
      step s = ({ t with halted := false } : State).runInstr ∧ step s = step { s with halted := false }) ∧
    (t.ieReg &&& t.ifReg &&& 0x1F#8 = 0#8 → step s = .next { t with cycles := 4 })

/-- No instruction traps, faults or aborts: each of the 512 completes, in every state (R405, R425). -/
def Obligations.EveryInstructionCompletes : Prop := ∀ (i : Instr) (s : State), ∃ t, exec i s = .next t

/-- A step runs to completion exactly while the FAULT latch is NONE, and no step sets the latch (R56, R400, R430). What
`step` answers while it is set, the fault of the latch's name, is this model's choice, since R430 also lets a model
return the state unchanged: notes/assumptions/9.md. -/
def Obligations.StepStopsOnlyOnFault : Prop :=
  ∀ (s : State), (s.faultLatch = .none → ∃ t, step s = .next t ∧ t.faultLatch = .none) ∧
    (s.faultLatch = .badCartType → step s = .fault .badCartType) ∧
    (s.faultLatch = .badCartSize → step s = .fault .badCartSize) ∧
    (s.faultLatch = .noHandler → step s = .fault .noHandler)

/-- Requests presented before a step are ORed into IF and then part of it (R11), and the outputs of the last step are
not read (R403, R470). That an empty list of requests presents none is this model's choice: notes/assumptions/8.md. -/
def Obligations.StepInputsAndOutputs : Prop :=
  ∀ (s : State) (r : BitVec 5) (rest : List (BitVec 5)) (ev : List Event) (n : Nat),
    step { s with irqIn := r :: rest } =
      step { s with irqIn := 0#5 :: rest, ifReg := s.ifReg ||| r.setWidth 8 } ∧
    step { s with irqIn := [] } = step { s with irqIn := [0#5] } ∧
    step { s with events := ev, cycles := n } = step s

/-! ## Invariants -/

/-- The state after reset with the standard parameters is well kept (R60; the parameters are this model's choice:
notes/assumptions/3.md). -/
def Obligations.ResetHasInv : Prop := Inv State.reset

/-- RESET, for any session (R60, R61, R62): in the reset state with parameters p every register and control bit has its
value of R60 (A's is the document's, the others the spec's decision D26), the memories take INIT_MEM and ERAM_INIT, the
latch what attach left; and with sound parameters the state is well kept. That a reset the host asserts (R450) is that
state of the parameters attached, the same INIT_MEM again and the listed inputs dropped, is this model's choice:
notes/assumptions/16.md. -/
def Obligations.ResetValues : Prop :=
  ∀ (u : State) (p : Params) (s : State), u.par = p → s = u.hostReset →
    s = State.resetWith p ∧ (ParamsOk p → Inv s) ∧
    (∀ r, s.reg r = 0x00#8) ∧ s.f = 0x00#8 ∧ s.sp = 0x0000#16 ∧ s.pc = 0x0000#16 ∧ s.ime = false ∧ s.halted = false ∧
    s.ifReg = 0x00#8 ∧ s.ieReg = 0x00#8 ∧ (s.bootActive = true ↔ 0 < bootBytes p.bootSize) ∧ s.rom1Sel = 1 ∧
    s.eramSel = 0 ∧ s.vramSel = 0 ∧ s.wramSel = 1 ∧ s.faultLatch = p.attachFault ∧
    s.mbc = (match p.kind with
      | .none => .none
      | .mbc1 => .mbc1 ⟨false, 1, 0, false⟩
      | .mbc3 => .mbc3 ⟨false, 1, 0⟩
      | .mbc5 => .mbc5 ⟨false, 1, 0, 0⟩) ∧
    s.vram = p.initVram ∧ s.wram = p.initWram ∧ s.oam = p.initOam ∧ s.hram = p.initHram ∧ s.eram = p.eramInit

/-- Every step keeps what holds of a well-kept state: F's low nibble zero, memories in canonical form and inside their
sizes, the active controller the session's, its bank numbers never 0 where they may not be, the mapping the one the
controller's registers give, the colour-mode selects at rest outside colour mode
(R31, R44, R45, R46, R50, R52, R53, R101, R103). -/
def Obligations.StepKeepsInv : Prop := ∀ (s t : State), Inv s → step s = .next t → Inv t

/-- In a well-kept state every bank select is in range and every address that names a cell names one that exists
(R46, R50, R102, R121). -/
def Obligations.InvKeepsBanksPresent : Prop :=
  ∀ (s : State), Inv s → s.rom1Sel < s.par.nRom ∧ (s.par.nEram ≠ 0 → s.eramSel < s.par.nEram) ∧
    s.vramSel.toNat < vramBanks s.par ∧ (1 ≤ s.wramSel.toNat ∧ s.wramSel.toNat ≤ 7) ∧
    ∀ a x, s.cellAt a = some x → x.2 < storeSize s.par x.1

/-- No step changes the session's parameters, so no ROM byte, no boot byte, no bank count and no controller kind
(R7, R8, R46, R100); and the boot overlay never comes back: an instruction clears it exactly when it stores to 0xFF50
(R43, R50, R83). -/
def Obligations.SessionConstants : Prop :=
  (∀ (s t : State), step s = .next t → t.par = s.par ∧ (t.bootActive = true → s.bootActive = true)) ∧
  (∀ (i : Instr) (s t : State), exec i s = .next t →
    t.bootActive = (s.bootActive && !decide (0xFF50#16 ∈ storedAddresses s i)))

/-- The run state: HALTED is set by HALT alone and cleared by no instruction; IME is set by EI and RETI, cleared by DI
and changed by no other instruction (R39, R40, R360, R381, R383, R384). -/
def Obligations.RunStateWriters : Prop :=
  ∀ (i : Instr) (s t : State), exec i s = .next t →
    t.halted = (s.halted || decide (i = .halt)) ∧
    t.ime = if i = .ei ∨ i = .reti then true else if i = .di then false else s.ime

/-! ## Frames -/

/-- An instruction changes no 8-bit register but its destinations (`destRegs`: the Operation lines of R200 to R345). -/
def Obligations.RegisterFrame : Prop :=
  ∀ (i : Instr) (s t : State), exec i s = .next t → ∀ r, r ∉ destRegs i → t.reg r = s.reg r

/-- THE FLAG SUMMARY (R160): each flag is kept, cleared, set or computed as the instruction's row says, and F's low
nibble stays zero (R31, R35). -/
def Obligations.FlagSummary : Prop :=
  ∀ (i : Instr) (s t : State), exec i s = .next t →
    (flagRow i).z.allows s.flagZ t.flagZ ∧ (flagRow i).n.allows s.flagN t.flagN ∧
    (flagRow i).h.allows s.flagH t.flagH ∧ (flagRow i).c.allows s.flagC t.flagC ∧
    (s.f &&& 0x0F#8 = 0#8 → t.f &&& 0x0F#8 = 0#8) ∧ (flagRow i = FlagRow.none → t.f = s.f)

/-- SP changes only by the instructions R36 lists, and PC (past the fetch) only by jumps, calls, returns and restarts
(R36, R37). -/
def Obligations.SpAndPcFrame : Prop :=
  ∀ (i : Instr) (s t : State), exec i s = .next t →
    (writesSp i = false → t.sp = s.sp) ∧ (writesPc i = false → t.pc = s.pc)

/-- No physical cell changes but those the stored addresses name (`storedAddresses`, R78): for an instruction that
stores nothing, none. -/
def Obligations.CellFrame : Prop :=
  ∀ (i : Instr) (s t : State), exec i s = .next t →
    ∀ x, (∀ a, a ∈ storedAddresses s i → s.cellAt a ≠ some x) → t.cell x = s.cell x

/-- EVERY BYTE OF MEMORY, through the read of one byte: an address that no stored address reaches reads as before
(R78, R79, R125); an instruction that stores nothing leaves every address so. `State.reaches` says what a store can
reach on this banked machine. The addresses of present peripherals answer as the environment chooses (R95). -/
def Obligations.ReadFrame : Prop :=
  ∀ (i : Instr) (s t : State), exec i s = .next t →
    ∀ b, s.forwards b = false → (∀ a, a ∈ storedAddresses s i → ¬ s.reaches a b) → t.readByte b = s.readByte b

/-- The control registers: the controller and the bank selects it makes change only by a store below 0x8000; the
colour-mode selects, IF and IE each only by a store to its own address; the parameters, the FAULT latch and the pending
inputs by no instruction (R41, R42, R44, R45, R50, R56, R101, R130). -/
def Obligations.ControlFrame : Prop :=
  ∀ (i : Instr) (s t : State), exec i s = .next t →
    ((∀ a, a ∈ storedAddresses s i → 0x8000 ≤ a.toNat) →
      t.mbc = s.mbc ∧ t.rom1Sel = s.rom1Sel ∧ t.eramSel = s.eramSel) ∧
    (0xFF4F#16 ∉ storedAddresses s i → t.vramSel = s.vramSel) ∧
    (0xFF70#16 ∉ storedAddresses s i → t.wramSel = s.wramSel) ∧
    (0xFF0F#16 ∉ storedAddresses s i → t.ifReg = s.ifReg) ∧
    (0xFFFF#16 ∉ storedAddresses s i → t.ieReg = s.ieReg) ∧
    t.par = s.par ∧ t.faultLatch = s.faultLatch ∧ t.irqIn = s.irqIn

/-! ## Results: loads -/

/-- LD r,r'; LD r,d8; LD r,(HL): the 63 constructors ldX_Y, ldX_d8 and ldX_AtHL (R200, R201, R202). -/
def Obligations.LoadRegisterResult : Prop :=
  ∀ (dst : Reg8) (x : Src8) (s : State), ∃ t, exec (Instr.ldForm dst x) s = .next t ∧
    t.reg dst = (match x with | .reg r => s.reg r | .atHL => s.readByte s.hl | .imm n => n) ∧
    t.cycles = (match x with | .reg _ => 4 | .atHL => 8 | .imm _ => 8)

/-- The seven loads of A from memory: A takes the byte, HL steps in the two stepping forms
(R205, R206, R209, R211, R213, R216, R218). -/
def Obligations.LoadAccumulatorResult : Prop :=
  ∀ (s : State) (nn : Word) (o : Byte) (i : Instr) (a hl : Word) (n : Nat),
    (i, a, hl, n) ∈
      [(.ldA_AtBC, s.bc, s.hl, 8), (.ldA_AtDE, s.de, s.hl, 8), (.ldA_AtA16 nn, nn, s.hl, 16),
       (.ldhA_AtA8 o, 0xFF00#16 + o.setWidth 16, s.hl, 12), (.ldA_AtC, 0xFF00#16 + s.c.setWidth 16, s.hl, 8),
       (.ldA_AtHLInc, s.hl, s.hl + 1, 8), (.ldA_AtHLDec, s.hl, s.hl - 1, 8)] →
    ∃ t, exec i s = .next t ∧ t.a = s.readByte a ∧ t.hl = hl ∧ t.cycles = n

/-- The fifteen byte stores: exactly one write through the address decoder at the stated address, HL stepped in the two
stepping forms, nothing else (R203, R204, R207, R208, R210, R212, R214, R215, R217). -/
def Obligations.StoreByteResult : Prop :=
  (∀ (r : Reg8) (s : State),
    exec (Instr.ldAtHLForm r) s = .next { s.writeByte s.hl (s.reg r) with cycles := 8 }) ∧
  (∀ (s : State) (nn : Word) (o v : Byte) (i : Instr) (a : Word) (w : Byte) (hl : Word) (n : Nat),
    (i, a, w, hl, n) ∈
      [(.ldAtHL_d8 v, s.hl, v, s.hl, 12), (.ldAtBC_A, s.bc, s.a, s.hl, 8), (.ldAtDE_A, s.de, s.a, s.hl, 8),
       (.ldAtA16_A nn, nn, s.a, s.hl, 16), (.ldhAtA8_A o, 0xFF00#16 + o.setWidth 16, s.a, s.hl, 12),
       (.ldAtC_A, 0xFF00#16 + s.c.setWidth 16, s.a, s.hl, 8), (.ldAtHLInc_A, s.hl, s.a, s.hl + 1, 8),
       (.ldAtHLDec_A, s.hl, s.a, s.hl - 1, 8)] →
    exec i s = .next { s.writeByte a w with h := hiByte hl, l := loByte hl, cycles := n })

/-- LD rr,d16; LD (a16),SP; LD SP,HL; LD HL,SP+r8 with its flags from the low-byte sum (R230 to R233, R300). -/
def Obligations.LoadWordResult : Prop :=
  (∀ (p : Reg16) (nn : Word) (s : State), ∃ t, exec (Instr.ldPairForm p nn) s = .next t ∧
    t.pair p = nn ∧ t.cycles = 12) ∧
  (∀ (nn : Word) (s : State), exec (.ldAtA16_SP nn) s =
    .next { (s.writeByte nn (loByte s.sp)).writeByte (nn + 1) (hiByte s.sp) with cycles := 20 }) ∧
  (∀ (s : State), exec .ldSP_HL s = .next { s with sp := s.hl, cycles := 8 }) ∧
  (∀ (v : Byte) (s : State), ∃ t, exec (.ldHL_SPr8 v) s = .next t ∧
    t.hl = s.sp + v.signExtend 16 ∧ t.flagZ = false ∧ t.flagN = false ∧
    t.flagH = decide (s.sp.toNat % 16 + v.toNat % 16 > 15) ∧
    t.flagC = decide (s.sp.toNat % 256 + v.toNat > 255) ∧ t.cycles = 12)

/-- PUSH stores the pair low byte first at the new SP; POP reads it back in that order, and POP AF drops the low nibble
(R234, R235, R350, R35). -/
def Obligations.PushAndPopResult : Prop :=
  (∀ (q : Stk16) (s : State), exec (Instr.pushForm q) s =
    .next { (({ s with sp := s.sp - 2 } : State).writeByte (s.sp - 2) (loByte (s.stk q))).writeByte (s.sp - 2 + 1)
      (hiByte (s.stk q)) with cycles := 16 }) ∧
  (∀ (q : Stk16) (s : State) (lo hi : Byte), lo = s.readByte s.sp → hi = (s.afterRead s.sp).readByte (s.sp + 1) →
    ∃ t, exec (Instr.popForm q) s = .next t ∧ t.sp = s.sp + 2 ∧ t.cycles = 12 ∧
      (match q with
       | .bc => t.b = hi ∧ t.c = lo
       | .de => t.d = hi ∧ t.e = lo
       | .hl => t.h = hi ∧ t.l = lo
       | .af => t.a = hi ∧ t.f = lo &&& 0xF0#8))

/-! ## Results: arithmetic and logic -/

/-- ADD and ADC on all nine operand forms (R251 with R254 to R259): carry iff the sum exceeds 0xFF, half-carry iff the
low-nibble sum exceeds 0xF, zero iff the truncated sum is 0. -/
def Obligations.AddResult : Prop :=
  ∀ (x : Src8) (s : State) (op : AluOp) (ci v : Nat),
    (op = .add ∧ ci = 0) ∨ (op = .adc ∧ ci = s.flagC.toNat) → v = (s.srcValue x).toNat →
    ∃ t, exec (Instr.aluForm op x) s = .next t ∧ t.a.toNat = (s.a.toNat + v + ci) % 256 ∧
      t.flagZ = decide ((s.a.toNat + v + ci) % 256 = 0) ∧ t.flagN = false ∧
      t.flagH = decide (s.a.toNat % 16 + v % 16 + ci > 15) ∧ t.flagC = decide (s.a.toNat + v + ci > 255)

/-- SUB, SBC and CP on all nine operand forms (R252 with R260 to R265 and R275 to R277): borrow iff the true difference
is negative; CP leaves A. -/
def Obligations.SubtractResult : Prop :=
  ∀ (x : Src8) (s : State) (op : AluOp) (ci v : Nat),
    (op = .sub ∧ ci = 0) ∨ (op = .sbc ∧ ci = s.flagC.toNat) ∨ (op = .cp ∧ ci = 0) → v = (s.srcValue x).toNat →
    ∃ t, exec (Instr.aluForm op x) s = .next t ∧
      t.a.toNat = (if op = .cp then s.a.toNat else (s.a.toNat + 512 - v - ci) % 256) ∧
      t.flagZ = decide ((s.a.toNat + 512 - v - ci) % 256 = 0) ∧ t.flagN = true ∧
      t.flagH = decide (s.a.toNat % 16 < v % 16 + ci) ∧ t.flagC = decide (s.a.toNat < v + ci)

/-- AND, OR and XOR on all nine operand forms (R253 with R266 to R274). -/
def Obligations.LogicResult : Prop :=
  ∀ (x : Src8) (s : State) (op : AluOp) (res : Byte),
    (op = .and ∧ res = s.a &&& s.srcValue x) ∨ (op = .or ∧ res = s.a ||| s.srcValue x) ∨
      (op = .xor ∧ res = s.a ^^^ s.srcValue x) →
    ∃ t, exec (Instr.aluForm op x) s = .next t ∧ t.a = res ∧ t.flagZ = decide (res = 0#8) ∧ t.flagN = false ∧
      t.flagH = decide (op = .and) ∧ t.flagC = false

/-- INC and DEC. Of a register r: r stepped modulo 256, no other register and nothing but F and the cycle count besides.
Of the byte at HL: one read there, one write there of the byte stepped modulo 256, nothing else but F and the cycle
count. Half-carry by the low nibble, carry kept (R278, R279, R280, R281). -/
def Obligations.IncDecByteResult : Prop :=
  (∀ (r : Reg8) (s : State) (v : Byte), v = s.reg r →
    (∃ t, exec (Instr.incForm (.reg r)) s = .next t ∧ t.reg r = v + 1 ∧ (∀ q, q ≠ r → t.reg q = s.reg q) ∧
      t = { s with a := t.a, b := t.b, c := t.c, d := t.d, e := t.e, h := t.h, l := t.l, f := t.f, cycles := 4 } ∧
      t.flagZ = decide (v.toNat = 255) ∧ t.flagN = false ∧ t.flagH = decide (v.toNat % 16 = 15) ∧
      t.flagC = s.flagC) ∧
    (∃ t, exec (Instr.decForm (.reg r)) s = .next t ∧ t.reg r = v - 1 ∧ (∀ q, q ≠ r → t.reg q = s.reg q) ∧
      t = { s with a := t.a, b := t.b, c := t.c, d := t.d, e := t.e, h := t.h, l := t.l, f := t.f, cycles := 4 } ∧
      t.flagZ = decide (v.toNat = 1) ∧ t.flagN = true ∧ t.flagH = decide (v.toNat % 16 = 0) ∧ t.flagC = s.flagC)) ∧
  (∀ (s : State) (v : Byte), v = s.readByte s.hl →
    (∃ t, exec (Instr.incForm .atHL) s = .next t ∧
      t = { (s.afterRead s.hl).writeByte s.hl (v + 1) with f := t.f, cycles := 12 } ∧
      t.flagZ = decide (v.toNat = 255) ∧ t.flagN = false ∧ t.flagH = decide (v.toNat % 16 = 15) ∧
      t.flagC = s.flagC) ∧
    (∃ t, exec (Instr.decForm .atHL) s = .next t ∧
      t = { (s.afterRead s.hl).writeByte s.hl (v - 1) with f := t.f, cycles := 12 } ∧
      t.flagZ = decide (v.toNat = 1) ∧ t.flagN = true ∧ t.flagH = decide (v.toNat % 16 = 0) ∧ t.flagC = s.flagC))

/-- DAA, CPL, SCF and CCF: A, the four flags and the cycle count, and nothing else (R282 to R285). -/
def Obligations.AccumulatorAdjustResult : Prop :=
  (∀ (s : State) (hi lo : Bool), (hi = if s.flagN then s.flagC else s.flagC || decide (s.a.toNat > 0x99)) →
    (lo = if s.flagN then s.flagH else s.flagH || decide (s.a.toNat % 16 > 9)) →
    ∃ t, exec .daa s = .next t ∧
      t = { s with
            a := (if s.flagN then s.a - ((if hi then 0x60#8 else 0#8) + (if lo then 0x06#8 else 0#8))
                  else s.a + ((if hi then 0x60#8 else 0#8) + (if lo then 0x06#8 else 0#8))),
            f := t.f, cycles := 4 } ∧
      t.flagZ = decide (t.a = 0#8) ∧ t.flagN = s.flagN ∧ t.flagH = false ∧ t.flagC = hi) ∧
  (∀ (s : State), ∃ t, exec .cpl s = .next t ∧ t = { s with a := s.a ^^^ 0xFF#8, f := t.f, cycles := 4 } ∧
    t.flagZ = s.flagZ ∧ t.flagN = true ∧ t.flagH = true ∧ t.flagC = s.flagC) ∧
  (∀ (s : State), ∃ t, exec .scf s = .next t ∧ t = { s with f := t.f, cycles := 4 } ∧
    t.flagZ = s.flagZ ∧ t.flagN = false ∧ t.flagH = false ∧ t.flagC = true) ∧
  (∀ (s : State), ∃ t, exec .ccf s = .next t ∧ t = { s with f := t.f, cycles := 4 } ∧
    t.flagZ = s.flagZ ∧ t.flagN = false ∧ t.flagH = false ∧ t.flagC = !s.flagC)

/-- ADD HL,rr with carries out of bits 11 and 15 and Z kept; INC rr and DEC rr modulo 65536 with no flag; ADD SP,r8
with its flags from the low-byte sum (R300 to R304). -/
def Obligations.WordArithmeticResult : Prop :=
  (∀ (p : Reg16) (s : State), ∃ t, exec (Instr.addHLForm p) s = .next t ∧ t.hl = s.hl + s.pair p ∧
    t.flagZ = s.flagZ ∧ t.flagN = false ∧
    t.flagH = decide (s.hl.toNat % 4096 + (s.pair p).toNat % 4096 > 4095) ∧
    t.flagC = decide (s.hl.toNat + (s.pair p).toNat > 65535) ∧ t.cycles = 8) ∧
  (∀ (p : Reg16) (s : State), ∃ t, exec (Instr.incPairForm p) s = .next t ∧ t.pair p = s.pair p + 1 ∧ t.f = s.f ∧
    t.cycles = 8) ∧
  (∀ (p : Reg16) (s : State), ∃ t, exec (Instr.decPairForm p) s = .next t ∧ t.pair p = s.pair p - 1 ∧ t.f = s.f ∧
    t.cycles = 8) ∧
  (∀ (v : Byte) (s : State), ∃ t, exec (.addSP_r8 v) s = .next t ∧ t.sp = s.sp + v.signExtend 16 ∧
    t.flagZ = false ∧ t.flagN = false ∧ t.flagH = decide (s.sp.toNat % 16 + v.toNat % 16 > 15) ∧
    t.flagC = decide (s.sp.toNat % 256 + v.toNat > 255) ∧ t.cycles = 16)

/-- The rotates and shifts: the bit that comes to stand at each place, the bit shifted out in Carry, Zero forced false
for the four accumulator-only forms and computed for the extended ones. An extended form reads register r and writes r
and no other register, or reads the byte at HL and writes it back there whatever it is (R310 to R330). -/
def Obligations.RotateResult : Prop :=
  (∀ (s : State) (i : Instr) (k : RotKind), (i, k) ∈ [(.rlca, .rlc), (.rrca, .rrc), (.rla, .rl), (.rra, .rr)] →
    ∃ t, exec i s = .next t ∧ (∀ j, j < 8 → t.a.getLsbD j = movedBit k s.flagC s.a j) ∧
      t = { s with a := t.a, f := t.f, cycles := 4 } ∧
      t.flagZ = false ∧ t.flagN = false ∧ t.flagH = false ∧ t.flagC = shiftedOut k s.a) ∧
  (∀ (k : RotKind) (r : Reg8) (s : State) (v : Byte), v = s.reg r →
    ∃ t, exec (Instr.rotForm k (.reg r)) s = .next t ∧
      (∀ j, j < 8 → (t.reg r).getLsbD j = movedBit k s.flagC v j) ∧ (∀ q, q ≠ r → t.reg q = s.reg q) ∧
      t = { s with a := t.a, b := t.b, c := t.c, d := t.d, e := t.e, h := t.h, l := t.l, f := t.f, cycles := 8 } ∧
      t.flagZ = decide (t.reg r = 0#8) ∧ t.flagN = false ∧ t.flagH = false ∧ t.flagC = shiftedOut k v) ∧
  (∀ (k : RotKind) (s : State) (v : Byte), v = s.readByte s.hl →
    ∃ (t : State) (res : Byte), exec (Instr.rotForm k .atHL) s = .next t ∧
      (∀ j, j < 8 → res.getLsbD j = movedBit k s.flagC v j) ∧
      t = { (s.afterRead s.hl).writeByte s.hl res with f := t.f, cycles := 16 } ∧
      t.flagZ = decide (res = 0#8) ∧ t.flagN = false ∧ t.flagH = false ∧ t.flagC = shiftedOut k v)

/-- BIT puts the complement of the bit in Z and writes nothing else but N = 0 and H = 1; RES and SET write back the
operand with that one bit cleared or set and no flag. The operand is register r, written back to r and to no other
register, or the byte at HL, read there and written back there (R340 to R345). -/
def Obligations.BitResult : Prop :=
  (∀ (k : Index8) (r : Reg8) (s : State) (v : Byte), v = s.reg r →
    (∃ t, exec (Instr.bitForm k (.reg r)) s = .next t ∧ t = { s with f := t.f, cycles := 8 } ∧
      t.flagZ = !v.getLsbD (indexNat k) ∧ t.flagN = false ∧ t.flagH = true ∧ t.flagC = s.flagC) ∧
    (∃ t, exec (Instr.resForm k (.reg r)) s = .next t ∧
      (∀ j, j < 8 → (t.reg r).getLsbD j = (v.getLsbD j && decide (j ≠ indexNat k))) ∧
      (∀ q, q ≠ r → t.reg q = s.reg q) ∧
      t = { s with a := t.a, b := t.b, c := t.c, d := t.d, e := t.e, h := t.h, l := t.l, cycles := 8 }) ∧
    (∃ t, exec (Instr.setForm k (.reg r)) s = .next t ∧
      (∀ j, j < 8 → (t.reg r).getLsbD j = (v.getLsbD j || decide (j = indexNat k))) ∧
      (∀ q, q ≠ r → t.reg q = s.reg q) ∧
      t = { s with a := t.a, b := t.b, c := t.c, d := t.d, e := t.e, h := t.h, l := t.l, cycles := 8 })) ∧
  (∀ (k : Index8) (s : State) (v : Byte), v = s.readByte s.hl →
    (∃ t, exec (Instr.bitForm k .atHL) s = .next t ∧ t = { s.afterRead s.hl with f := t.f, cycles := 12 } ∧
      t.flagZ = !v.getLsbD (indexNat k) ∧ t.flagN = false ∧ t.flagH = true ∧ t.flagC = s.flagC) ∧
    (∃ res : Byte, (∀ j, j < 8 → res.getLsbD j = (v.getLsbD j && decide (j ≠ indexNat k))) ∧
      exec (Instr.resForm k .atHL) s = .next { (s.afterRead s.hl).writeByte s.hl res with cycles := 16 }) ∧
    (∃ res : Byte, (∀ j, j < 8 → res.getLsbD j = (v.getLsbD j || decide (j = indexNat k))) ∧
      exec (Instr.setForm k .atHL) s = .next { (s.afterRead s.hl).writeByte s.hl res with cycles := 16 }))

/-! ## Results: control -/

/-- The conditions and the jumps: PC takes the target when the condition holds and keeps PC_next when it does not, with
the cycle count of each case (R350 to R355). -/
def Obligations.JumpResult : Prop :=
  ∀ (s : State) (nn : Word) (v : Byte) (cc : Cond) (taken : Bool),
    (taken = match cc with | .nz => !s.flagZ | .z => s.flagZ | .nc => !s.flagC | .c => s.flagC) →
    exec (.jp_a16 nn) s = .next { s with pc := nn, cycles := 16 } ∧
    exec .jpHL s = .next { s with pc := s.hl, cycles := 4 } ∧
    exec (.jr_r8 v) s = .next { s with pc := s.pc + v.signExtend 16, cycles := 12 } ∧
    exec (Instr.jpForm cc nn) s =
      .next { s with pc := if taken then nn else s.pc, cycles := if taken then 16 else 12 } ∧
    exec (Instr.jrForm cc v) s =
      .next { s with pc := if taken then s.pc + v.signExtend 16 else s.pc, cycles := if taken then 12 else 8 }

/-- Calls and restarts push PC_next and go to the target; a call not taken changes nothing (R356, R357, R361). -/
def Obligations.CallResult : Prop :=
  ∀ (s u : State) (nn : Word) (cc : Cond) (y : Index8),
    u = (({ s with sp := s.sp - 2 } : State).writeByte (s.sp - 2) (loByte s.pc)).writeByte (s.sp - 2 + 1)
      (hiByte s.pc) →
    exec (.call_a16 nn) s = .next { u with pc := nn, cycles := 24 } ∧
    exec (Instr.rstForm y) s = .next { u with pc := BitVec.ofNat 16 (8 * indexNat y), cycles := 16 } ∧
    (s.cond cc = true → exec (Instr.callForm cc nn) s = .next { u with pc := nn, cycles := 24 }) ∧
    (s.cond cc = false → exec (Instr.callForm cc nn) s = .next { s with cycles := 12 })

/-- Returns pop PC, low byte from the lower address; RETI also sets IME; a return not taken changes nothing
(R358, R359, R360, R413). -/
def Obligations.ReturnResult : Prop :=
  ∀ (s u : State) (cc : Cond),
    u = { (s.afterRead s.sp).afterRead (s.sp + 1) with
          pc := joinBytes ((s.afterRead s.sp).readByte (s.sp + 1)) (s.readByte s.sp), sp := s.sp + 2 } →
    exec .ret s = .next { u with cycles := 16 } ∧ exec .reti s = .next { u with ime := true, cycles := 16 } ∧
    (s.cond cc = true → exec (Instr.retForm cc) s = .next { u with cycles := 20 }) ∧
    (s.cond cc = false → exec (Instr.retForm cc) s = .next { s with cycles := 8 })

/-- NOP, HALT, DI, EI, STOP and the eleven undefined opcodes (R380 to R384, R387). STOP is the spec's decision D7, EI's
immediacy D5, the list of undefined opcodes D8. -/
def Obligations.ProcessorControlResult : Prop :=
  ∀ (s : State) (pad : Byte),
    exec .nop s = .next { s with cycles := 4 } ∧ exec .halt s = .next { s with halted := true, cycles := 4 } ∧
    exec .di s = .next { s with ime := false, cycles := 4 } ∧
    exec .ei s = .next { s with ime := true, cycles := 4 } ∧
    exec (.stop pad) s = .next { s with events := s.events ++ [.stopReq], cycles := 4 } ∧
    ∀ i, i ∈ undefinedInstrs → exec i s = .next { s with cycles := 0 }

/-! ## Memory -/

/-- Reads of the ROM range: bank 0 below 0x4000 where the overlay does not cover it, the bank ROM1_SEL above
(R84, R85), the boot image where the active overlay covers the address (R83). ROM[b][o] is listed at 16384 b + o. -/
def Obligations.RomReads : Prop :=
  ∀ (s : State) (a : Word),
    (a.toNat < 0x4000 → ¬ (s.bootActive = true ∧ a.toNat < bootBytes s.par.bootSize) →
      s.readByte a = s.par.rom.read a.toNat) ∧
    (a.toNat < 0x4000 → s.bootActive = true → a.toNat < bootBytes s.par.bootSize →
      s.readByte a = s.par.boot.read a.toNat) ∧
    (0x4000 ≤ a.toNat → a.toNat < 0x8000 → s.readByte a = s.par.rom.read (16384 * s.rom1Sel + (a.toNat - 0x4000)))

/-- Working RAM's low half, OAM, IF and IE: what a read returns and what a write stores (R89, R92, R99); the interrupt
check reads the two registers directly, with the values those reads give (R99). -/
def Obligations.FixedRamAndRegisters : Prop :=
  ∀ (s : State) (a : Word) (v : Byte),
    (0xC000 ≤ a.toNat → a.toNat ≤ 0xCFFF → s.readByte a = s.wram.read (a.toNat - 0xC000) ∧
      s.writeByte a v = { s with wram := s.wram.write (a.toNat - 0xC000) v }) ∧
    (0xFE00 ≤ a.toNat → a.toNat ≤ 0xFE9F → s.readByte a = s.oam.read (a.toNat - 0xFE00) ∧
      s.writeByte a v = { s with oam := s.oam.write (a.toNat - 0xFE00) v }) ∧
    s.readByte 0xFF0F#16 = s.ifReg ∧ s.writeByte 0xFF0F#16 v = { s with ifReg := v } ∧
    s.readByte 0xFFFF#16 = s.ieReg ∧ s.writeByte 0xFFFF#16 v = { s with ieReg := v } ∧
    s.pending = s.readByte 0xFFFF#16 &&& s.readByte 0xFF0F#16 &&& 0x1F#8

/-- The switched and the decided regions: VRAM (R86), external RAM, whose reads ignore the write enable and whose
writes need it, RAM_EN of the active MBC1, MBC3 or MBC5 and always on for NONE (R51, R87, R88), working RAM's high half
(R90), the mirror (R91), high RAM (R98). -/
def Obligations.SwitchedRegions : Prop :=
  ∀ (s : State) (a : Word) (v : Byte),
    (0x8000 ≤ a.toNat → a.toNat ≤ 0x9FFF →
      s.readByte a = s.vram.read (8192 * s.vramSel.toNat + (a.toNat - 0x8000)) ∧
      s.writeByte a v = { s with vram := s.vram.write (8192 * s.vramSel.toNat + (a.toNat - 0x8000)) v }) ∧
    (0xA000 ≤ a.toNat → a.toNat ≤ 0xBFFF → s.par.nEram ≠ 0 →
      s.readByte a = s.eram.read (8192 * s.eramSel + (a.toNat - 0xA000)) ∧
      s.writeByte a v = (if (match s.mbc with
          | .none => true
          | .mbc1 r => r.ramEn
          | .mbc3 r => r.ramEn
          | .mbc5 r => r.ramEn) = true then
        { s with eram := s.eram.write (8192 * s.eramSel + (a.toNat - 0xA000)) v } else s)) ∧
    (0xD000 ≤ a.toNat → a.toNat ≤ 0xDFFF →
      s.readByte a = s.wram.read (4096 * s.wramSel.toNat + (a.toNat - 0xD000)) ∧
      s.writeByte a v = { s with wram := s.wram.write (4096 * s.wramSel.toNat + (a.toNat - 0xD000)) v }) ∧
    (0xE000 ≤ a.toNat → a.toNat ≤ 0xFDFF → s.readByte a = s.readByte (a - 0x2000#16) ∧
      s.afterRead a = s.afterRead (a - 0x2000#16) ∧ s.writeByte a v = s.writeByte (a - 0x2000#16) v) ∧
    (0xFF80 ≤ a.toNat → a.toNat ≤ 0xFFFE → s.readByte a = s.hram.read (a.toNat - 0xFF80) ∧
      s.writeByte a v = { s with hram := s.hram.write (a.toNat - 0xFF80) v })

/-- The five peripheral ports: an attached peripheral answers a read with the environment's byte and receives a write
verbatim; an absent one gives 0xFF, drops the write and is logged; the block's own state is unchanged either way
(R95, R96). How the environment's bytes are listed (`nextAnswer`) and what the diagnostics are called are this model's:
notes/assumptions/5.md and 7.md. -/
def Obligations.PeripheralPorts : Prop :=
  ∀ (s : State) (a : Word) (v : Byte) (p : Peripheral), portOf a = some p →
    (isAttached s.par.attached p = true → s.readByte a = s.nextAnswer ∧
      s.afterRead a = { s.dropAnswer with events := s.events ++ [.periphRead p a] } ∧
      s.writeByte a v = { s with events := s.events ++ [.periphWrite p a v] }) ∧
    (isAttached s.par.attached p = false → s.readByte a = 0xFF#8 ∧
      s.afterRead a = { s with events := s.events ++ [.diag .unmappedRead a] } ∧
      s.writeByte a v = { s with events := s.events ++ [.diag .unmappedWrite a] })

/-- Addresses nothing claims, and the external RAM range of a cartridge without external RAM: 0xFF and a diagnostic on
a read, a dropped write and a diagnostic on a write (R87, R88, R93, R94, R97). The names of the two diagnostics are
this model's: notes/assumptions/7.md. -/
def Obligations.UnmappedAddresses : Prop :=
  ∀ (s : State) (a : Word) (v : Byte),
    (unclaimed a = true ∨ (0xA000 ≤ a.toNat ∧ a.toNat ≤ 0xBFFF ∧ s.par.nEram = 0)) →
    s.readByte a = 0xFF#8 ∧ s.afterRead a = { s with events := s.events ++ [.diag .unmappedRead a] } ∧
    s.writeByte a v = { s with events := s.events ++ [.diag .unmappedWrite a] }

/-- The boot unmap and the two colour-mode selects: write-only, read as 0xFF; any byte unmaps the overlay; the selects
take bit 0 and bits 2 to 0 with 0 standing for 1, and outside colour mode are a diagnostic and nothing else
(R43, R44, R45). The diagnostic's name is this model's: notes/assumptions/7.md. -/
def Obligations.SelectRegisters : Prop :=
  ∀ (s : State) (v : Byte),
    s.readByte 0xFF50#16 = 0xFF#8 ∧ s.readByte 0xFF4F#16 = 0xFF#8 ∧ s.readByte 0xFF70#16 = 0xFF#8 ∧
    s.writeByte 0xFF50#16 v = { s with bootActive := false } ∧
    (s.par.colorMode = true → ∃ (x : BitVec 1) (y : BitVec 3),
      s.writeByte 0xFF4F#16 v = { s with vramSel := x } ∧ x.toNat = v.toNat % 2 ∧
      s.writeByte 0xFF70#16 v = { s with wramSel := y } ∧
      y.toNat = (if v.toNat % 8 = 0 then 1 else v.toNat % 8)) ∧
    (s.par.colorMode = false →
      s.writeByte 0xFF4F#16 v = { s with events := s.events ++ [.diag .selectIgnored 0xFF4F#16] } ∧
      s.writeByte 0xFF70#16 v = { s with events := s.events ++ [.diag .selectIgnored 0xFF70#16] })

/-- A byte stored where it is stored (RAM, IF or IE) is what a read there then gives (R125). -/
def Obligations.StoreThenLoad : Prop :=
  ∀ (s : State) (a : Word) (v : Byte), Inv s → s.storable a = true → (s.writeByte a v).readByte a = v

/-- A byte write changes nothing at the addresses it does not reach, and a byte read changes nothing at any address but
the present peripherals' (R79, R80, R125). -/
def Obligations.AccessFrame : Prop :=
  ∀ (s : State) (a b : Word) (v : Byte), s.forwards b = false →
    (¬ s.reaches a b → (s.writeByte a v).readByte b = s.readByte b) ∧ (s.afterRead a).readByte b = s.readByte b ∧
    s.afterRead a = { s with periphIn := (s.afterRead a).periphIn, periphCount := (s.afterRead a).periphCount,
                             events := (s.afterRead a).events }

/-- Every write to 0x0000 to 0x7FFF goes to the active bank controller and is never stored: no byte of any array
changes, ROM and boot image among them, also while the overlay covers the address (R100). -/
def Obligations.RomRangeWrites : Prop :=
  ∀ (s : State) (a : Word) (v : Byte), a.toNat < 0x8000 →
    s.writeByte a v = s.romWrite a v ∧ (s.writeByte a v).par = s.par ∧
    ∀ x, (s.writeByte a v).cell x = s.cell x

/-- MBC1, by the top nibble of the address (R105 to R109, R112, R113): RAM enable with the save request when it falls,
the bank registers, the mode, and the mapping they give. -/
def Obligations.Mbc1Writes : Prop :=
  ∀ (s : State) (r : Mbc1) (a : Word) (v : Byte), s.mbc = .mbc1 r →
    (a.toNat < 0x2000 → s.writeByte a v = { s with
      mbc := .mbc1 { r with ramEn := decide (v.toNat % 16 = 10) },
      events := s.events ++ (if r.ramEn = true ∧ v.toNat % 16 ≠ 10 then [.saveReq] else []) }) ∧
    (0x2000 ≤ a.toNat → a.toNat < 0x8000 → ∃ q : Mbc1,
      (s.writeByte a v) = { s with mbc := .mbc1 q, rom1Sel := (mappingOf s.par (.mbc1 q)).1,
                                   eramSel := (mappingOf s.par (.mbc1 q)).2 } ∧
      q.ramEn = r.ramEn ∧
      q.bankLo.toNat = (if a.toNat < 0x4000 then (if v.toNat % 32 = 0 then 1 else v.toNat % 32)
        else r.bankLo.toNat) ∧
      q.bankHi.toNat = (if 0x4000 ≤ a.toNat ∧ a.toNat < 0x6000 then v.toNat % 4 else r.bankHi.toNat) ∧
      q.mode = (if 0x6000 ≤ a.toNat then decide (v.toNat % 2 = 1) else r.mode))

/-- MBC3, MBC5 and the NONE controller, by the top nibble of the address (R104, R110, R111, R112, R113). The name of
NONE's diagnostic is this model's: notes/assumptions/7.md. -/
def Obligations.OtherControllerWrites : Prop :=
  (∀ (s : State) (r : Mbc3) (a : Word) (v : Byte), s.mbc = .mbc3 r →
    (a.toNat < 0x2000 → s.writeByte a v = { s with
      mbc := .mbc3 { r with ramEn := decide (v.toNat % 16 = 10) },
      events := s.events ++ (if r.ramEn = true ∧ v.toNat % 16 ≠ 10 then [.saveReq] else []) }) ∧
    (0x2000 ≤ a.toNat → a.toNat < 0x4000 → ∃ k : BitVec 7,
      k.toNat = (if v.toNat % 128 = 0 then 1 else v.toNat % 128) ∧
      s.writeByte a v = { s with
        mbc := .mbc3 { r with romBank := k }
        rom1Sel := (k.toNat &&& bankMask s.par.nRom) }) ∧
    (0x4000 ≤ a.toNat → a.toNat < 0x6000 → ∃ k : BitVec 2, k.toNat = v.toNat % 4 ∧
      s.writeByte a v = { s with
        mbc := .mbc3 { r with ramBank := k }
        eramSel := (if s.par.nEram = 0 then 0 else k.toNat &&& bankMask s.par.nEram) }) ∧
    (0x6000 ≤ a.toNat → a.toNat < 0x8000 → s.writeByte a v = s)) ∧
  (∀ (s : State) (r : Mbc5) (a : Word) (v : Byte), s.mbc = .mbc5 r →
    (a.toNat < 0x2000 → s.writeByte a v = { s with
      mbc := .mbc5 { r with ramEn := decide (v.toNat % 16 = 10) },
      events := s.events ++ (if r.ramEn = true ∧ v.toNat % 16 ≠ 10 then [.saveReq] else []) }) ∧
    (0x2000 ≤ a.toNat → a.toNat < 0x3000 → s.writeByte a v = { s with
      mbc := .mbc5 { r with romBankLo := v },
      rom1Sel := (256 * r.romBankHi.toNat + v.toNat) &&& bankMask s.par.nRom }) ∧
    (0x3000 ≤ a.toNat → a.toNat < 0x4000 → ∃ k : BitVec 1, k.toNat = v.toNat % 2 ∧ s.writeByte a v = { s with
      mbc := .mbc5 { r with romBankHi := k },
      rom1Sel := (256 * k.toNat + r.romBankLo.toNat) &&& bankMask s.par.nRom }) ∧
    (0x4000 ≤ a.toNat → a.toNat < 0x6000 → ∃ k : BitVec 4, k.toNat = v.toNat % 16 ∧
      s.writeByte a v = { s with
        mbc := .mbc5 { r with ramBank := k }
        eramSel := (if s.par.nEram = 0 then 0 else k.toNat &&& bankMask s.par.nEram) }) ∧
    (0x6000 ≤ a.toNat → a.toNat < 0x8000 → s.writeByte a v = s)) ∧
  (∀ (s : State) (a : Word) (v : Byte), s.mbc = .none → a.toNat < 0x8000 →
    s.writeByte a v = { s with events := s.events ++ [.diag .romWrite a] })

/-- The bank mask is the next power of two less one at or above the count less one, and a masked number is a bank that
is present whenever the count is a power of two (R102). -/
def Obligations.BankMaskRule : Prop :=
  (∀ n, 1 ≤ n → ∃ k, bankMask n = 2 ^ k - 1 ∧ n ≤ 2 ^ k ∧ ∀ j, n ≤ 2 ^ j → k ≤ j) ∧
  (∀ number k, bankIndex number (2 ^ k) = (number &&& bankMask (2 ^ k)) ∧ bankIndex number (2 ^ k) < 2 ^ k)

/-- Cartridge attach: the type byte at 0x0147 gives the controller, the size codes at 0x0148 and 0x0149 the bank
counts, and the FAULT latch is NONE exactly when all three are recognised (R118, R119, R120). -/
def Obligations.HeaderDecode : Prop :=
  ∀ (p : Params) (t c d : Nat), t = (p.rom.read 0x0147).toNat → c = (p.rom.read 0x0148).toNat →
    d = (p.rom.read 0x0149).toNat →
    (t ∈ [0x00, 0x08, 0x09] → (attach p).kind = .none) ∧ (t ∈ [0x01, 0x02, 0x03] → (attach p).kind = .mbc1) ∧
    (t ∈ [0x11, 0x12, 0x13] → (attach p).kind = .mbc3) ∧ (t ∈ [0x19, 0x1A, 0x1B] → (attach p).kind = .mbc5) ∧
    (c ≤ 8 → (attach p).nRom = 2 * 2 ^ c) ∧
    (∀ n, (d, n) ∈ [(0, 0), (1, 1), (2, 1), (3, 4), (4, 16), (5, 8)] → (attach p).nEram = n) ∧
    ((attach p).attachFault = .none ↔
      t ∈ [0x00, 0x08, 0x09, 0x01, 0x02, 0x03, 0x11, 0x12, 0x13, 0x19, 0x1A, 0x1B] ∧ c ≤ 8 ∧ d ≤ 5) ∧
    (c ≤ 8 → d ≤ 5 → (attach p).attachFault = .none ∨ (attach p).attachFault = .badCartType) ∧
    (t ∈ [0x00, 0x08, 0x09, 0x01, 0x02, 0x03, 0x11, 0x12, 0x13, 0x19, 0x1A, 0x1B] →
      (attach p).attachFault = .none ∨ (attach p).attachFault = .badCartSize)

/-! ## Whole-machine properties -/

/-- A word is stored and read low byte at the lower address, and a word stored in RAM reads back (R71, R75, R76). -/
def Obligations.WordOrder : Prop :=
  ∀ (s : State) (a v : Word), Inv s → s.isRam a = true → s.isRam (a + 1) = true →
    (s.writeWord a v).readByte a = loByte v ∧ (s.writeWord a v).readByte (a + 1) = hiByte v ∧
    (s.writeWord a v).readWord a = v

/-- With the stack in RAM, PUSH qq then POP qq restores the pair, SP, every register and F (R234, R235); and a taken
or unconditional call or a restart, then RET, comes back to the instruction after it with SP where it was
(R356, R357, R358, R361). -/
def Obligations.StackRoundTrips : Prop :=
  ∀ (s : State), Inv s → s.isRam (s.sp - 2) = true → s.isRam (s.sp - 1) = true →
    (∀ q : Stk16, ∃ t u, exec (Instr.pushForm q) s = .next t ∧ exec (Instr.popForm q) t = .next u ∧
      u.stk q = s.stk q ∧ u.sp = s.sp ∧ (∀ r, u.reg r = s.reg r) ∧ u.f = s.f) ∧
    (∀ (i : Instr) (nn : Word) (cc : Cond) (y : Index8),
      i = .call_a16 nn ∨ (i = Instr.callForm cc nn ∧ s.cond cc = true) ∨ i = Instr.rstForm y →
      ∃ t u, exec i s = .next t ∧ exec .ret t = .next u ∧ u.pc = s.pc ∧ u.sp = s.sp)

/-- Interrupt entry and return: with the stack in RAM and nothing requested meanwhile, RETI after a service resumes the
interrupted program where it was, with every register, F and SP as they were, the core running and the master enable
set again (R411, R412, R413). -/
def Obligations.ServiceThenReturn : Prop :=
  ∀ (s : State), Inv s → s.faultLatch = .none → s.beginStep.wake.takesInterrupt = true →
    s.isRam (s.sp - 2) = true → s.isRam (s.sp - 1) = true →
    ∃ t u, step s = .next t ∧ exec .reti t = .next u ∧ u.pc = s.pc ∧ u.sp = s.sp ∧ u.ime = true ∧
      u.halted = false ∧ u.f = s.f ∧ ∀ r, u.reg r = s.reg r

/-- Decimal arithmetic: ADD or ADC of two-digit decimal bytes followed by DAA gives the decimal sum modulo 100 with
Carry the hundred, and SUB or SBC followed by DAA the decimal difference modulo 100 with Carry the borrow
(R251, R252, R282). -/
def Obligations.DecimalArithmetic : Prop :=
  ∀ (s : State) (x : Src8) (m n : Nat) (op : AluOp) (ci : Nat), m < 100 → n < 100 → s.a = decimalByte m →
    s.srcValue x = decimalByte n →
    ((op = .add ∧ ci = 0) ∨ (op = .adc ∧ ci = s.flagC.toNat) → ∃ t u, exec (Instr.aluForm op x) s = .next t ∧
      exec .daa t = .next u ∧ u.a = decimalByte ((m + n + ci) % 100) ∧ u.flagC = decide (m + n + ci ≥ 100) ∧
      u.flagZ = decide ((m + n + ci) % 100 = 0)) ∧
    ((op = .sub ∧ ci = 0) ∨ (op = .sbc ∧ ci = s.flagC.toNat) → ∃ t u, exec (Instr.aluForm op x) s = .next t ∧
      exec .daa t = .next u ∧ u.a = decimalByte ((m + 200 - n - ci) % 100) ∧ u.flagC = decide (m < n + ci) ∧
      u.flagZ = decide ((m + 200 - n - ci) % 100 = 0))
end

