-- ==== Sys2Proof/Laws/Forms.lean ====
section
/-!
SUPPORT. The 512 instructions as some sixty forms: the meaning of each form is one shared operation, and what holds of
every form holds of every instruction. A proof about all instructions goes through `Instr.byForm`.
-/

namespace Sys2Proof.Machine

/-! ## The meaning of each form -/

@[simp] theorem exec_ldForm (dst : Reg8) (x : Src8) (s : State) : exec (Instr.ldForm dst x) s = ldReg dst x s := by
  cases dst <;> (rcases x with r | _ | n <;> try cases r) <;> rfl

@[simp] theorem exec_ldAtHLForm (dst : Reg8) (s : State) : exec (Instr.ldAtHLForm dst) s = store s.hl (s.reg dst) 8 s := by
  cases dst <;> rfl

@[simp] theorem exec_aluForm (op : AluOp) (x : Src8) (s : State) : exec (Instr.aluForm op x) s = alu op x s := by
  cases op <;> (rcases x with r | _ | n <;> try cases r) <;> rfl

@[simp] theorem exec_incForm (x : Loc8) (s : State) : exec (Instr.incForm x) s = incLoc x s := by
  (rcases x with r | _ <;> try cases r) <;> rfl

@[simp] theorem exec_decForm (x : Loc8) (s : State) : exec (Instr.decForm x) s = decLoc x s := by
  (rcases x with r | _ <;> try cases r) <;> rfl

@[simp] theorem exec_ldPairForm (p : Reg16) (nn : Word) (s : State) : exec (Instr.ldPairForm p nn) s = ldPair p nn s := by
  cases p <;> rfl

@[simp] theorem exec_addHLForm (p : Reg16) (s : State) : exec (Instr.addHLForm p) s = addHL p s := by
  cases p <;> rfl

@[simp] theorem exec_incPairForm (p : Reg16) (s : State) : exec (Instr.incPairForm p) s = incPair p s := by
  cases p <;> rfl

@[simp] theorem exec_decPairForm (p : Reg16) (s : State) : exec (Instr.decPairForm p) s = decPair p s := by
  cases p <;> rfl

@[simp] theorem exec_pushForm (q : Stk16) (s : State) : exec (Instr.pushForm q) s = pushPair q s := by
  cases q <;> rfl

@[simp] theorem exec_popForm (q : Stk16) (s : State) : exec (Instr.popForm q) s = popPair q s := by
  cases q <;> rfl

@[simp] theorem exec_jrForm (cc : Cond) (v : Byte) (s : State) : exec (Instr.jrForm cc v) s = jumpRelIf cc v s := by
  cases cc <;> rfl

@[simp] theorem exec_jpForm (cc : Cond) (nn : Word) (s : State) : exec (Instr.jpForm cc nn) s = jumpIf cc nn s := by
  cases cc <;> rfl

@[simp] theorem exec_callForm (cc : Cond) (nn : Word) (s : State) : exec (Instr.callForm cc nn) s = callIf cc nn s := by
  cases cc <;> rfl

@[simp] theorem exec_retForm (cc : Cond) (s : State) : exec (Instr.retForm cc) s = returnIf cc s := by
  cases cc <;> rfl

@[simp] theorem exec_rstForm (k : Index8) (s : State) : exec (Instr.rstForm k) s = .next ((s.call (restartTarget k)).report 16) := by
  cases k <;> rfl

@[simp] theorem exec_rotForm (k : RotKind) (x : Loc8) (s : State) : exec (Instr.rotForm k x) s = rotateLoc k x s := by
  cases k <;> (rcases x with r | _ <;> try cases r) <;> rfl

@[simp] theorem exec_bitForm (k : Index8) (x : Loc8) (s : State) : exec (Instr.bitForm k x) s = bitTest k x s := by
  cases k <;> (rcases x with r | _ <;> try cases r) <;> rfl

@[simp] theorem exec_resForm (k : Index8) (x : Loc8) (s : State) : exec (Instr.resForm k x) s = bitReset k x s := by
  cases k <;> (rcases x with r | _ <;> try cases r) <;> rfl

@[simp] theorem exec_setForm (k : Index8) (x : Loc8) (s : State) : exec (Instr.setForm k x) s = bitSet k x s := by
  cases k <;> (rcases x with r | _ <;> try cases r) <;> rfl

@[simp] theorem exec_nop (s : State) : exec .nop s =
    .next (s.report 4) := rfl

@[simp] theorem exec_ldAtBC_A (s : State) : exec .ldAtBC_A s =
    store s.bc s.a 8 s := rfl

@[simp] theorem exec_rlca (s : State) : exec .rlca s =
    rotateA .rlc s := rfl

@[simp] theorem exec_ldAtA16_SP (nn : Word) (s : State) : exec (.ldAtA16_SP nn) s =
    storeWord nn s.sp 20 s := rfl

@[simp] theorem exec_ldA_AtBC (s : State) : exec .ldA_AtBC s =
    loadA s.bc 8 s := rfl

@[simp] theorem exec_rrca (s : State) : exec .rrca s =
    rotateA .rrc s := rfl

@[simp] theorem exec_stop (pad : Byte) (s : State) : exec (.stop pad) s =
    .next ((s.emit .stopReq).report 4) := rfl

@[simp] theorem exec_ldAtDE_A (s : State) : exec .ldAtDE_A s =
    store s.de s.a 8 s := rfl

@[simp] theorem exec_rla (s : State) : exec .rla s =
    rotateA .rl s := rfl

@[simp] theorem exec_jr_r8 (d : Byte) (s : State) : exec (.jr_r8 d) s =
    .next ({ s with pc := s.relTarget d }.report 12) := rfl

@[simp] theorem exec_ldA_AtDE (s : State) : exec .ldA_AtDE s =
    loadA s.de 8 s := rfl

@[simp] theorem exec_rra (s : State) : exec .rra s =
    rotateA .rr s := rfl

@[simp] theorem exec_ldAtHLInc_A (s : State) : exec .ldAtHLInc_A s =
    storeAStep 1 s := rfl

@[simp] theorem exec_daa (s : State) : exec .daa s =
    adjust s := rfl

@[simp] theorem exec_ldA_AtHLInc (s : State) : exec .ldA_AtHLInc s =
    loadAStep 1 s := rfl

@[simp] theorem exec_cpl (s : State) : exec .cpl s =
    .next (({ s with a := s.a ^^^ 0xFF#8 }.setFlags s.flagZ true true s.flagC).report 4) := rfl

@[simp] theorem exec_ldAtHLDec_A (s : State) : exec .ldAtHLDec_A s =
    storeAStep (-1) s := rfl

@[simp] theorem exec_ldAtHL_d8 (n : Byte) (s : State) : exec (.ldAtHL_d8 n) s =
    store s.hl n 12 s := rfl

@[simp] theorem exec_scf (s : State) : exec .scf s =
    .next ((s.setFlags s.flagZ false false true).report 4) := rfl

@[simp] theorem exec_ldA_AtHLDec (s : State) : exec .ldA_AtHLDec s =
    loadAStep (-1) s := rfl

@[simp] theorem exec_ccf (s : State) : exec .ccf s =
    .next ((s.setFlags s.flagZ false false (!s.flagC)).report 4) := rfl

@[simp] theorem exec_halt (s : State) : exec .halt s =
    .next ({ s with halted := true }.report 4) := rfl

@[simp] theorem exec_jp_a16 (nn : Word) (s : State) : exec (.jp_a16 nn) s =
    .next ({ s with pc := nn }.report 16) := rfl

@[simp] theorem exec_ret (s : State) : exec .ret s =
    .next (s.ret.report 16) := rfl

@[simp] theorem exec_call_a16 (nn : Word) (s : State) : exec (.call_a16 nn) s =
    .next ((s.call nn).report 24) := rfl

@[simp] theorem exec_reti (s : State) : exec .reti s =
    .next (s.returnFromInterrupt.report 16) := rfl

@[simp] theorem exec_ldhAtA8_A (o : Byte) (s : State) : exec (.ldhAtA8_A o) s =
    store (highPage o) s.a 12 s := rfl

@[simp] theorem exec_ldAtC_A (s : State) : exec .ldAtC_A s =
    store (highPage s.c) s.a 8 s := rfl

@[simp] theorem exec_addSP_r8 (d : Byte) (s : State) : exec (.addSP_r8 d) s =
    addSP d s := rfl

@[simp] theorem exec_jpHL (s : State) : exec .jpHL s =
    .next ({ s with pc := s.hl }.report 4) := rfl

@[simp] theorem exec_ldAtA16_A (nn : Word) (s : State) : exec (.ldAtA16_A nn) s =
    store nn s.a 16 s := rfl

@[simp] theorem exec_ldhA_AtA8 (o : Byte) (s : State) : exec (.ldhA_AtA8 o) s =
    loadA (highPage o) 12 s := rfl

@[simp] theorem exec_ldA_AtC (s : State) : exec .ldA_AtC s =
    loadA (highPage s.c) 8 s := rfl

@[simp] theorem exec_di (s : State) : exec .di s =
    .next ({ s with ime := false }.report 4) := rfl

@[simp] theorem exec_ldHL_SPr8 (d : Byte) (s : State) : exec (.ldHL_SPr8 d) s =
    ldHLSp d s := rfl

@[simp] theorem exec_ldSP_HL (s : State) : exec .ldSP_HL s =
    .next ({ s with sp := s.hl }.report 8) := rfl

@[simp] theorem exec_ldA_AtA16 (nn : Word) (s : State) : exec (.ldA_AtA16 nn) s =
    loadA nn 16 s := rfl

@[simp] theorem exec_ei (s : State) : exec .ei s =
    .next ({ s with ime := true }.report 4) := rfl

@[simp] theorem exec_prefixCB (e : Byte) (s : State) : exec (.prefixCB e) s = exec (decodeExtended e) s := by
  show extended e s = _
  simp only [extended, decodeExtended]
  generalize e.toNat / 64 = x
  rcases x with _ | _ | _ | x <;> simp

theorem exec_undefined (i : Instr) (hi : i ∈ undefinedInstrs) (s : State) : exec i s = .next (s.report 0) := by
  simp only [undefinedInstrs, List.mem_cons, List.not_mem_nil, or_false] at hi
  rcases hi with rfl | rfl | rfl | rfl | rfl | rfl | rfl | rfl | rfl | rfl | rfl <;> rfl

/-! ## Every instruction has a form -/

/-- What holds of every form holds of every instruction; the prefix row of what its extended instruction does. -/
theorem Instr.byForm {P : Instr → Prop}
    (h_ldForm : ∀ (dst : Reg8) (x : Src8), P (Instr.ldForm dst x))
    (h_ldAtHLForm : ∀ (dst : Reg8), P (Instr.ldAtHLForm dst))
    (h_aluForm : ∀ (op : AluOp) (x : Src8), P (Instr.aluForm op x))
    (h_incForm : ∀ (x : Loc8), P (Instr.incForm x))
    (h_decForm : ∀ (x : Loc8), P (Instr.decForm x))
    (h_ldPairForm : ∀ (p : Reg16) (nn : Word), P (Instr.ldPairForm p nn))
    (h_addHLForm : ∀ (p : Reg16), P (Instr.addHLForm p))
    (h_incPairForm : ∀ (p : Reg16), P (Instr.incPairForm p))
    (h_decPairForm : ∀ (p : Reg16), P (Instr.decPairForm p))
    (h_pushForm : ∀ (q : Stk16), P (Instr.pushForm q))
    (h_popForm : ∀ (q : Stk16), P (Instr.popForm q))
    (h_jrForm : ∀ (cc : Cond) (v : Byte), P (Instr.jrForm cc v))
    (h_jpForm : ∀ (cc : Cond) (nn : Word), P (Instr.jpForm cc nn))
    (h_callForm : ∀ (cc : Cond) (nn : Word), P (Instr.callForm cc nn))
    (h_retForm : ∀ (cc : Cond), P (Instr.retForm cc))
    (h_rstForm : ∀ (k : Index8), P (Instr.rstForm k))
    (h_rotForm : ∀ (k : RotKind) (x : Loc8), P (Instr.rotForm k x))
    (h_bitForm : ∀ (k : Index8) (x : Loc8), P (Instr.bitForm k x))
    (h_resForm : ∀ (k : Index8) (x : Loc8), P (Instr.resForm k x))
    (h_setForm : ∀ (k : Index8) (x : Loc8), P (Instr.setForm k x))
    (h_nop : P .nop)
    (h_ldAtBC_A : P .ldAtBC_A)
    (h_rlca : P .rlca)
    (h_ldAtA16_SP : ∀ nn : Word, P (.ldAtA16_SP nn))
    (h_ldA_AtBC : P .ldA_AtBC)
    (h_rrca : P .rrca)
    (h_stop : ∀ pad : Byte, P (.stop pad))
    (h_ldAtDE_A : P .ldAtDE_A)
    (h_rla : P .rla)
    (h_jr_r8 : ∀ d : Byte, P (.jr_r8 d))
    (h_ldA_AtDE : P .ldA_AtDE)
    (h_rra : P .rra)
    (h_ldAtHLInc_A : P .ldAtHLInc_A)
    (h_daa : P .daa)
    (h_ldA_AtHLInc : P .ldA_AtHLInc)
    (h_cpl : P .cpl)
    (h_ldAtHLDec_A : P .ldAtHLDec_A)
    (h_ldAtHL_d8 : ∀ n : Byte, P (.ldAtHL_d8 n))
    (h_scf : P .scf)
    (h_ldA_AtHLDec : P .ldA_AtHLDec)
    (h_ccf : P .ccf)
    (h_halt : P .halt)
    (h_jp_a16 : ∀ nn : Word, P (.jp_a16 nn))
    (h_ret : P .ret)
    (h_call_a16 : ∀ nn : Word, P (.call_a16 nn))
    (h_reti : P .reti)
    (h_ldhAtA8_A : ∀ o : Byte, P (.ldhAtA8_A o))
    (h_ldAtC_A : P .ldAtC_A)
    (h_addSP_r8 : ∀ d : Byte, P (.addSP_r8 d))
    (h_jpHL : P .jpHL)
    (h_ldAtA16_A : ∀ nn : Word, P (.ldAtA16_A nn))
    (h_ldhA_AtA8 : ∀ o : Byte, P (.ldhA_AtA8 o))
    (h_ldA_AtC : P .ldA_AtC)
    (h_di : P .di)
    (h_ldHL_SPr8 : ∀ d : Byte, P (.ldHL_SPr8 d))
    (h_ldSP_HL : P .ldSP_HL)
    (h_ldA_AtA16 : ∀ nn : Word, P (.ldA_AtA16 nn))
    (h_ei : P .ei)
    (h_undef : ∀ i ∈ undefinedInstrs, P i)
    (h_prefix : ∀ e, P (decodeExtended e) → P (.prefixCB e)) (i : Instr) : P i := by
  have ext : ∀ e : Byte, P (decodeExtended e) := by
    intro e
    simp only [decodeExtended]
    split
    · exact h_rotForm _ _
    · exact h_bitForm _ _
    · exact h_resForm _ _
    · exact h_setForm _ _
  cases i with
  | nop => exact h_nop
  | ldBC_d16 nn => exact h_ldPairForm .bc nn
  | ldAtBC_A => exact h_ldAtBC_A
  | incBC => exact h_incPairForm .bc
  | incB => exact h_incForm (.reg .b)
  | decB => exact h_decForm (.reg .b)
  | ldB_d8 n => exact h_ldForm .b (.imm n)
  | rlca => exact h_rlca
  | ldAtA16_SP nn => exact h_ldAtA16_SP nn
  | addHL_BC => exact h_addHLForm .bc
  | ldA_AtBC => exact h_ldA_AtBC
  | decBC => exact h_decPairForm .bc
  | incC => exact h_incForm (.reg .c)
  | decC => exact h_decForm (.reg .c)
  | ldC_d8 n => exact h_ldForm .c (.imm n)
  | rrca => exact h_rrca
  | stop pad => exact h_stop pad
  | ldDE_d16 nn => exact h_ldPairForm .de nn
  | ldAtDE_A => exact h_ldAtDE_A
  | incDE => exact h_incPairForm .de
  | incD => exact h_incForm (.reg .d)
  | decD => exact h_decForm (.reg .d)
  | ldD_d8 n => exact h_ldForm .d (.imm n)
  | rla => exact h_rla
  | jr_r8 d => exact h_jr_r8 d
  | addHL_DE => exact h_addHLForm .de
  | ldA_AtDE => exact h_ldA_AtDE
  | decDE => exact h_decPairForm .de
  | incE => exact h_incForm (.reg .e)
  | decE => exact h_decForm (.reg .e)
  | ldE_d8 n => exact h_ldForm .e (.imm n)
  | rra => exact h_rra
  | jrNZ_r8 d => exact h_jrForm .nz d
  | ldHL_d16 nn => exact h_ldPairForm .hl nn
  | ldAtHLInc_A => exact h_ldAtHLInc_A
  | incHL => exact h_incPairForm .hl
  | incH => exact h_incForm (.reg .h)
  | decH => exact h_decForm (.reg .h)
  | ldH_d8 n => exact h_ldForm .h (.imm n)
  | daa => exact h_daa
  | jrZ_r8 d => exact h_jrForm .z d
  | addHL_HL => exact h_addHLForm .hl
  | ldA_AtHLInc => exact h_ldA_AtHLInc
  | decHL => exact h_decPairForm .hl
  | incL => exact h_incForm (.reg .l)
  | decL => exact h_decForm (.reg .l)
  | ldL_d8 n => exact h_ldForm .l (.imm n)
  | cpl => exact h_cpl
  | jrNC_r8 d => exact h_jrForm .nc d
  | ldSP_d16 nn => exact h_ldPairForm .sp nn
  | ldAtHLDec_A => exact h_ldAtHLDec_A
  | incSP => exact h_incPairForm .sp
  | incAtHL => exact h_incForm .atHL
  | decAtHL => exact h_decForm .atHL
  | ldAtHL_d8 n => exact h_ldAtHL_d8 n
  | scf => exact h_scf
  | jrC_r8 d => exact h_jrForm .c d
  | addHL_SP => exact h_addHLForm .sp
  | ldA_AtHLDec => exact h_ldA_AtHLDec
  | decSP => exact h_decPairForm .sp
  | incA => exact h_incForm (.reg .a)
  | decA => exact h_decForm (.reg .a)
  | ldA_d8 n => exact h_ldForm .a (.imm n)
  | ccf => exact h_ccf
  | ldB_B => exact h_ldForm .b (.reg .b)
  | ldB_C => exact h_ldForm .b (.reg .c)
  | ldB_D => exact h_ldForm .b (.reg .d)
  | ldB_E => exact h_ldForm .b (.reg .e)
  | ldB_H => exact h_ldForm .b (.reg .h)
  | ldB_L => exact h_ldForm .b (.reg .l)
  | ldB_AtHL => exact h_ldForm .b .atHL
  | ldB_A => exact h_ldForm .b (.reg .a)
  | ldC_B => exact h_ldForm .c (.reg .b)
  | ldC_C => exact h_ldForm .c (.reg .c)
  | ldC_D => exact h_ldForm .c (.reg .d)
  | ldC_E => exact h_ldForm .c (.reg .e)
  | ldC_H => exact h_ldForm .c (.reg .h)
  | ldC_L => exact h_ldForm .c (.reg .l)
  | ldC_AtHL => exact h_ldForm .c .atHL
  | ldC_A => exact h_ldForm .c (.reg .a)
  | ldD_B => exact h_ldForm .d (.reg .b)
  | ldD_C => exact h_ldForm .d (.reg .c)
  | ldD_D => exact h_ldForm .d (.reg .d)
  | ldD_E => exact h_ldForm .d (.reg .e)
  | ldD_H => exact h_ldForm .d (.reg .h)
  | ldD_L => exact h_ldForm .d (.reg .l)
  | ldD_AtHL => exact h_ldForm .d .atHL
  | ldD_A => exact h_ldForm .d (.reg .a)
  | ldE_B => exact h_ldForm .e (.reg .b)
  | ldE_C => exact h_ldForm .e (.reg .c)
  | ldE_D => exact h_ldForm .e (.reg .d)
  | ldE_E => exact h_ldForm .e (.reg .e)
  | ldE_H => exact h_ldForm .e (.reg .h)
  | ldE_L => exact h_ldForm .e (.reg .l)
  | ldE_AtHL => exact h_ldForm .e .atHL
  | ldE_A => exact h_ldForm .e (.reg .a)
  | ldH_B => exact h_ldForm .h (.reg .b)
  | ldH_C => exact h_ldForm .h (.reg .c)
  | ldH_D => exact h_ldForm .h (.reg .d)
  | ldH_E => exact h_ldForm .h (.reg .e)
  | ldH_H => exact h_ldForm .h (.reg .h)
  | ldH_L => exact h_ldForm .h (.reg .l)
  | ldH_AtHL => exact h_ldForm .h .atHL
  | ldH_A => exact h_ldForm .h (.reg .a)
  | ldL_B => exact h_ldForm .l (.reg .b)
  | ldL_C => exact h_ldForm .l (.reg .c)
  | ldL_D => exact h_ldForm .l (.reg .d)
  | ldL_E => exact h_ldForm .l (.reg .e)
  | ldL_H => exact h_ldForm .l (.reg .h)
  | ldL_L => exact h_ldForm .l (.reg .l)
  | ldL_AtHL => exact h_ldForm .l .atHL
  | ldL_A => exact h_ldForm .l (.reg .a)
  | ldAtHL_B => exact h_ldAtHLForm .b
  | ldAtHL_C => exact h_ldAtHLForm .c
  | ldAtHL_D => exact h_ldAtHLForm .d
  | ldAtHL_E => exact h_ldAtHLForm .e
  | ldAtHL_H => exact h_ldAtHLForm .h
  | ldAtHL_L => exact h_ldAtHLForm .l
  | halt => exact h_halt
  | ldAtHL_A => exact h_ldAtHLForm .a
  | ldA_B => exact h_ldForm .a (.reg .b)
  | ldA_C => exact h_ldForm .a (.reg .c)
  | ldA_D => exact h_ldForm .a (.reg .d)
  | ldA_E => exact h_ldForm .a (.reg .e)
  | ldA_H => exact h_ldForm .a (.reg .h)
  | ldA_L => exact h_ldForm .a (.reg .l)
  | ldA_AtHL => exact h_ldForm .a .atHL
  | ldA_A => exact h_ldForm .a (.reg .a)
  | addA_B => exact h_aluForm .add (.reg .b)
  | addA_C => exact h_aluForm .add (.reg .c)
  | addA_D => exact h_aluForm .add (.reg .d)
  | addA_E => exact h_aluForm .add (.reg .e)
  | addA_H => exact h_aluForm .add (.reg .h)
  | addA_L => exact h_aluForm .add (.reg .l)
  | addA_AtHL => exact h_aluForm .add .atHL
  | addA_A => exact h_aluForm .add (.reg .a)
  | adcA_B => exact h_aluForm .adc (.reg .b)
  | adcA_C => exact h_aluForm .adc (.reg .c)
  | adcA_D => exact h_aluForm .adc (.reg .d)
  | adcA_E => exact h_aluForm .adc (.reg .e)
  | adcA_H => exact h_aluForm .adc (.reg .h)
  | adcA_L => exact h_aluForm .adc (.reg .l)
  | adcA_AtHL => exact h_aluForm .adc .atHL
  | adcA_A => exact h_aluForm .adc (.reg .a)
  | subB => exact h_aluForm .sub (.reg .b)
  | subC => exact h_aluForm .sub (.reg .c)
  | subD => exact h_aluForm .sub (.reg .d)
  | subE => exact h_aluForm .sub (.reg .e)
  | subH => exact h_aluForm .sub (.reg .h)
  | subL => exact h_aluForm .sub (.reg .l)
  | subAtHL => exact h_aluForm .sub .atHL
  | subA => exact h_aluForm .sub (.reg .a)
  | sbcA_B => exact h_aluForm .sbc (.reg .b)
  | sbcA_C => exact h_aluForm .sbc (.reg .c)
  | sbcA_D => exact h_aluForm .sbc (.reg .d)
  | sbcA_E => exact h_aluForm .sbc (.reg .e)
  | sbcA_H => exact h_aluForm .sbc (.reg .h)
  | sbcA_L => exact h_aluForm .sbc (.reg .l)
  | sbcA_AtHL => exact h_aluForm .sbc .atHL
  | sbcA_A => exact h_aluForm .sbc (.reg .a)
  | andB => exact h_aluForm .and (.reg .b)
  | andC => exact h_aluForm .and (.reg .c)
  | andD => exact h_aluForm .and (.reg .d)
  | andE => exact h_aluForm .and (.reg .e)
  | andH => exact h_aluForm .and (.reg .h)
  | andL => exact h_aluForm .and (.reg .l)
  | andAtHL => exact h_aluForm .and .atHL
  | andA => exact h_aluForm .and (.reg .a)
  | xorB => exact h_aluForm .xor (.reg .b)
  | xorC => exact h_aluForm .xor (.reg .c)
  | xorD => exact h_aluForm .xor (.reg .d)
  | xorE => exact h_aluForm .xor (.reg .e)
  | xorH => exact h_aluForm .xor (.reg .h)
  | xorL => exact h_aluForm .xor (.reg .l)
  | xorAtHL => exact h_aluForm .xor .atHL
  | xorA => exact h_aluForm .xor (.reg .a)
  | orB => exact h_aluForm .or (.reg .b)
  | orC => exact h_aluForm .or (.reg .c)
  | orD => exact h_aluForm .or (.reg .d)
  | orE => exact h_aluForm .or (.reg .e)
  | orH => exact h_aluForm .or (.reg .h)
  | orL => exact h_aluForm .or (.reg .l)
  | orAtHL => exact h_aluForm .or .atHL
  | orA => exact h_aluForm .or (.reg .a)
  | cpB => exact h_aluForm .cp (.reg .b)
  | cpC => exact h_aluForm .cp (.reg .c)
  | cpD => exact h_aluForm .cp (.reg .d)
  | cpE => exact h_aluForm .cp (.reg .e)
  | cpH => exact h_aluForm .cp (.reg .h)
  | cpL => exact h_aluForm .cp (.reg .l)
  | cpAtHL => exact h_aluForm .cp .atHL
  | cpA => exact h_aluForm .cp (.reg .a)
  | retNZ => exact h_retForm .nz
  | popBC => exact h_popForm .bc
  | jpNZ_a16 nn => exact h_jpForm .nz nn
  | jp_a16 nn => exact h_jp_a16 nn
  | callNZ_a16 nn => exact h_callForm .nz nn
  | pushBC => exact h_pushForm .bc
  | addA_d8 n => exact h_aluForm .add (.imm n)
  | rst00 => exact h_rstForm .i0
  | retZ => exact h_retForm .z
  | ret => exact h_ret
  | jpZ_a16 nn => exact h_jpForm .z nn
  | prefixCB e => exact h_prefix e (ext e)
  | callZ_a16 nn => exact h_callForm .z nn
  | call_a16 nn => exact h_call_a16 nn
  | adcA_d8 n => exact h_aluForm .adc (.imm n)
  | rst08 => exact h_rstForm .i1
  | retNC => exact h_retForm .nc
  | popDE => exact h_popForm .de
  | jpNC_a16 nn => exact h_jpForm .nc nn
  | undefD3 => exact h_undef _ (by simp [undefinedInstrs])
  | callNC_a16 nn => exact h_callForm .nc nn
  | pushDE => exact h_pushForm .de
  | sub_d8 n => exact h_aluForm .sub (.imm n)
  | rst10 => exact h_rstForm .i2
  | retC => exact h_retForm .c
  | reti => exact h_reti
  | jpC_a16 nn => exact h_jpForm .c nn
  | undefDB => exact h_undef _ (by simp [undefinedInstrs])
  | callC_a16 nn => exact h_callForm .c nn
  | undefDD => exact h_undef _ (by simp [undefinedInstrs])
  | sbcA_d8 n => exact h_aluForm .sbc (.imm n)
  | rst18 => exact h_rstForm .i3
  | ldhAtA8_A o => exact h_ldhAtA8_A o
  | popHL => exact h_popForm .hl
  | ldAtC_A => exact h_ldAtC_A
  | undefE3 => exact h_undef _ (by simp [undefinedInstrs])
  | undefE4 => exact h_undef _ (by simp [undefinedInstrs])
  | pushHL => exact h_pushForm .hl
  | and_d8 n => exact h_aluForm .and (.imm n)
  | rst20 => exact h_rstForm .i4
  | addSP_r8 d => exact h_addSP_r8 d
  | jpHL => exact h_jpHL
  | ldAtA16_A nn => exact h_ldAtA16_A nn
  | undefEB => exact h_undef _ (by simp [undefinedInstrs])
  | undefEC => exact h_undef _ (by simp [undefinedInstrs])
  | undefED => exact h_undef _ (by simp [undefinedInstrs])
  | xor_d8 n => exact h_aluForm .xor (.imm n)
  | rst28 => exact h_rstForm .i5
  | ldhA_AtA8 o => exact h_ldhA_AtA8 o
  | popAF => exact h_popForm .af
  | ldA_AtC => exact h_ldA_AtC
  | di => exact h_di
  | undefF4 => exact h_undef _ (by simp [undefinedInstrs])
  | pushAF => exact h_pushForm .af
  | or_d8 n => exact h_aluForm .or (.imm n)
  | rst30 => exact h_rstForm .i6
  | ldHL_SPr8 d => exact h_ldHL_SPr8 d
  | ldSP_HL => exact h_ldSP_HL
  | ldA_AtA16 nn => exact h_ldA_AtA16 nn
  | ei => exact h_ei
  | undefFC => exact h_undef _ (by simp [undefinedInstrs])
  | undefFD => exact h_undef _ (by simp [undefinedInstrs])
  | cp_d8 n => exact h_aluForm .cp (.imm n)
  | rst38 => exact h_rstForm .i7
  | rlcB => exact h_rotForm .rlc (.reg .b)
  | rlcC => exact h_rotForm .rlc (.reg .c)
  | rlcD => exact h_rotForm .rlc (.reg .d)
  | rlcE => exact h_rotForm .rlc (.reg .e)
  | rlcH => exact h_rotForm .rlc (.reg .h)
  | rlcL => exact h_rotForm .rlc (.reg .l)
  | rlcAtHL => exact h_rotForm .rlc .atHL
  | rlcA => exact h_rotForm .rlc (.reg .a)
  | rrcB => exact h_rotForm .rrc (.reg .b)
  | rrcC => exact h_rotForm .rrc (.reg .c)
  | rrcD => exact h_rotForm .rrc (.reg .d)
  | rrcE => exact h_rotForm .rrc (.reg .e)
  | rrcH => exact h_rotForm .rrc (.reg .h)
  | rrcL => exact h_rotForm .rrc (.reg .l)
  | rrcAtHL => exact h_rotForm .rrc .atHL
  | rrcA => exact h_rotForm .rrc (.reg .a)
  | rlB => exact h_rotForm .rl (.reg .b)
  | rlC => exact h_rotForm .rl (.reg .c)
  | rlD => exact h_rotForm .rl (.reg .d)
  | rlE => exact h_rotForm .rl (.reg .e)
  | rlH => exact h_rotForm .rl (.reg .h)
  | rlL => exact h_rotForm .rl (.reg .l)
  | rlAtHL => exact h_rotForm .rl .atHL
  | rlA => exact h_rotForm .rl (.reg .a)
  | rrB => exact h_rotForm .rr (.reg .b)
  | rrC => exact h_rotForm .rr (.reg .c)
  | rrD => exact h_rotForm .rr (.reg .d)
  | rrE => exact h_rotForm .rr (.reg .e)
  | rrH => exact h_rotForm .rr (.reg .h)
  | rrL => exact h_rotForm .rr (.reg .l)
  | rrAtHL => exact h_rotForm .rr .atHL
  | rrA => exact h_rotForm .rr (.reg .a)
  | slaB => exact h_rotForm .sla (.reg .b)
  | slaC => exact h_rotForm .sla (.reg .c)
  | slaD => exact h_rotForm .sla (.reg .d)
  | slaE => exact h_rotForm .sla (.reg .e)
  | slaH => exact h_rotForm .sla (.reg .h)
  | slaL => exact h_rotForm .sla (.reg .l)
  | slaAtHL => exact h_rotForm .sla .atHL
  | slaA => exact h_rotForm .sla (.reg .a)
  | sraB => exact h_rotForm .sra (.reg .b)
  | sraC => exact h_rotForm .sra (.reg .c)
  | sraD => exact h_rotForm .sra (.reg .d)
  | sraE => exact h_rotForm .sra (.reg .e)
  | sraH => exact h_rotForm .sra (.reg .h)
  | sraL => exact h_rotForm .sra (.reg .l)
  | sraAtHL => exact h_rotForm .sra .atHL
  | sraA => exact h_rotForm .sra (.reg .a)
  | swapB => exact h_rotForm .swap (.reg .b)
  | swapC => exact h_rotForm .swap (.reg .c)
  | swapD => exact h_rotForm .swap (.reg .d)
  | swapE => exact h_rotForm .swap (.reg .e)
  | swapH => exact h_rotForm .swap (.reg .h)
  | swapL => exact h_rotForm .swap (.reg .l)
  | swapAtHL => exact h_rotForm .swap .atHL
  | swapA => exact h_rotForm .swap (.reg .a)
  | srlB => exact h_rotForm .srl (.reg .b)
  | srlC => exact h_rotForm .srl (.reg .c)
  | srlD => exact h_rotForm .srl (.reg .d)
  | srlE => exact h_rotForm .srl (.reg .e)
  | srlH => exact h_rotForm .srl (.reg .h)
  | srlL => exact h_rotForm .srl (.reg .l)
  | srlAtHL => exact h_rotForm .srl .atHL
  | srlA => exact h_rotForm .srl (.reg .a)
  | bit0_B => exact h_bitForm .i0 (.reg .b)
  | bit0_C => exact h_bitForm .i0 (.reg .c)
  | bit0_D => exact h_bitForm .i0 (.reg .d)
  | bit0_E => exact h_bitForm .i0 (.reg .e)
  | bit0_H => exact h_bitForm .i0 (.reg .h)
  | bit0_L => exact h_bitForm .i0 (.reg .l)
  | bit0_AtHL => exact h_bitForm .i0 .atHL
  | bit0_A => exact h_bitForm .i0 (.reg .a)
  | bit1_B => exact h_bitForm .i1 (.reg .b)
  | bit1_C => exact h_bitForm .i1 (.reg .c)
  | bit1_D => exact h_bitForm .i1 (.reg .d)
  | bit1_E => exact h_bitForm .i1 (.reg .e)
  | bit1_H => exact h_bitForm .i1 (.reg .h)
  | bit1_L => exact h_bitForm .i1 (.reg .l)
  | bit1_AtHL => exact h_bitForm .i1 .atHL
  | bit1_A => exact h_bitForm .i1 (.reg .a)
  | bit2_B => exact h_bitForm .i2 (.reg .b)
  | bit2_C => exact h_bitForm .i2 (.reg .c)
  | bit2_D => exact h_bitForm .i2 (.reg .d)
  | bit2_E => exact h_bitForm .i2 (.reg .e)
  | bit2_H => exact h_bitForm .i2 (.reg .h)
  | bit2_L => exact h_bitForm .i2 (.reg .l)
  | bit2_AtHL => exact h_bitForm .i2 .atHL
  | bit2_A => exact h_bitForm .i2 (.reg .a)
  | bit3_B => exact h_bitForm .i3 (.reg .b)
  | bit3_C => exact h_bitForm .i3 (.reg .c)
  | bit3_D => exact h_bitForm .i3 (.reg .d)
  | bit3_E => exact h_bitForm .i3 (.reg .e)
  | bit3_H => exact h_bitForm .i3 (.reg .h)
  | bit3_L => exact h_bitForm .i3 (.reg .l)
  | bit3_AtHL => exact h_bitForm .i3 .atHL
  | bit3_A => exact h_bitForm .i3 (.reg .a)
  | bit4_B => exact h_bitForm .i4 (.reg .b)
  | bit4_C => exact h_bitForm .i4 (.reg .c)
  | bit4_D => exact h_bitForm .i4 (.reg .d)
  | bit4_E => exact h_bitForm .i4 (.reg .e)
  | bit4_H => exact h_bitForm .i4 (.reg .h)
  | bit4_L => exact h_bitForm .i4 (.reg .l)
  | bit4_AtHL => exact h_bitForm .i4 .atHL
  | bit4_A => exact h_bitForm .i4 (.reg .a)
  | bit5_B => exact h_bitForm .i5 (.reg .b)
  | bit5_C => exact h_bitForm .i5 (.reg .c)
  | bit5_D => exact h_bitForm .i5 (.reg .d)
  | bit5_E => exact h_bitForm .i5 (.reg .e)
  | bit5_H => exact h_bitForm .i5 (.reg .h)
  | bit5_L => exact h_bitForm .i5 (.reg .l)
  | bit5_AtHL => exact h_bitForm .i5 .atHL
  | bit5_A => exact h_bitForm .i5 (.reg .a)
  | bit6_B => exact h_bitForm .i6 (.reg .b)
  | bit6_C => exact h_bitForm .i6 (.reg .c)
  | bit6_D => exact h_bitForm .i6 (.reg .d)
  | bit6_E => exact h_bitForm .i6 (.reg .e)
  | bit6_H => exact h_bitForm .i6 (.reg .h)
  | bit6_L => exact h_bitForm .i6 (.reg .l)
  | bit6_AtHL => exact h_bitForm .i6 .atHL
  | bit6_A => exact h_bitForm .i6 (.reg .a)
  | bit7_B => exact h_bitForm .i7 (.reg .b)
  | bit7_C => exact h_bitForm .i7 (.reg .c)
  | bit7_D => exact h_bitForm .i7 (.reg .d)
  | bit7_E => exact h_bitForm .i7 (.reg .e)
  | bit7_H => exact h_bitForm .i7 (.reg .h)
  | bit7_L => exact h_bitForm .i7 (.reg .l)
  | bit7_AtHL => exact h_bitForm .i7 .atHL
  | bit7_A => exact h_bitForm .i7 (.reg .a)
  | res0_B => exact h_resForm .i0 (.reg .b)
  | res0_C => exact h_resForm .i0 (.reg .c)
  | res0_D => exact h_resForm .i0 (.reg .d)
  | res0_E => exact h_resForm .i0 (.reg .e)
  | res0_H => exact h_resForm .i0 (.reg .h)
  | res0_L => exact h_resForm .i0 (.reg .l)
  | res0_AtHL => exact h_resForm .i0 .atHL
  | res0_A => exact h_resForm .i0 (.reg .a)
  | res1_B => exact h_resForm .i1 (.reg .b)
  | res1_C => exact h_resForm .i1 (.reg .c)
  | res1_D => exact h_resForm .i1 (.reg .d)
  | res1_E => exact h_resForm .i1 (.reg .e)
  | res1_H => exact h_resForm .i1 (.reg .h)
  | res1_L => exact h_resForm .i1 (.reg .l)
  | res1_AtHL => exact h_resForm .i1 .atHL
  | res1_A => exact h_resForm .i1 (.reg .a)
  | res2_B => exact h_resForm .i2 (.reg .b)
  | res2_C => exact h_resForm .i2 (.reg .c)
  | res2_D => exact h_resForm .i2 (.reg .d)
  | res2_E => exact h_resForm .i2 (.reg .e)
  | res2_H => exact h_resForm .i2 (.reg .h)
  | res2_L => exact h_resForm .i2 (.reg .l)
  | res2_AtHL => exact h_resForm .i2 .atHL
  | res2_A => exact h_resForm .i2 (.reg .a)
  | res3_B => exact h_resForm .i3 (.reg .b)
  | res3_C => exact h_resForm .i3 (.reg .c)
  | res3_D => exact h_resForm .i3 (.reg .d)
  | res3_E => exact h_resForm .i3 (.reg .e)
  | res3_H => exact h_resForm .i3 (.reg .h)
  | res3_L => exact h_resForm .i3 (.reg .l)
  | res3_AtHL => exact h_resForm .i3 .atHL
  | res3_A => exact h_resForm .i3 (.reg .a)
  | res4_B => exact h_resForm .i4 (.reg .b)
  | res4_C => exact h_resForm .i4 (.reg .c)
  | res4_D => exact h_resForm .i4 (.reg .d)
  | res4_E => exact h_resForm .i4 (.reg .e)
  | res4_H => exact h_resForm .i4 (.reg .h)
  | res4_L => exact h_resForm .i4 (.reg .l)
  | res4_AtHL => exact h_resForm .i4 .atHL
  | res4_A => exact h_resForm .i4 (.reg .a)
  | res5_B => exact h_resForm .i5 (.reg .b)
  | res5_C => exact h_resForm .i5 (.reg .c)
  | res5_D => exact h_resForm .i5 (.reg .d)
  | res5_E => exact h_resForm .i5 (.reg .e)
  | res5_H => exact h_resForm .i5 (.reg .h)
  | res5_L => exact h_resForm .i5 (.reg .l)
  | res5_AtHL => exact h_resForm .i5 .atHL
  | res5_A => exact h_resForm .i5 (.reg .a)
  | res6_B => exact h_resForm .i6 (.reg .b)
  | res6_C => exact h_resForm .i6 (.reg .c)
  | res6_D => exact h_resForm .i6 (.reg .d)
  | res6_E => exact h_resForm .i6 (.reg .e)
  | res6_H => exact h_resForm .i6 (.reg .h)
  | res6_L => exact h_resForm .i6 (.reg .l)
  | res6_AtHL => exact h_resForm .i6 .atHL
  | res6_A => exact h_resForm .i6 (.reg .a)
  | res7_B => exact h_resForm .i7 (.reg .b)
  | res7_C => exact h_resForm .i7 (.reg .c)
  | res7_D => exact h_resForm .i7 (.reg .d)
  | res7_E => exact h_resForm .i7 (.reg .e)
  | res7_H => exact h_resForm .i7 (.reg .h)
  | res7_L => exact h_resForm .i7 (.reg .l)
  | res7_AtHL => exact h_resForm .i7 .atHL
  | res7_A => exact h_resForm .i7 (.reg .a)
  | set0_B => exact h_setForm .i0 (.reg .b)
  | set0_C => exact h_setForm .i0 (.reg .c)
  | set0_D => exact h_setForm .i0 (.reg .d)
  | set0_E => exact h_setForm .i0 (.reg .e)
  | set0_H => exact h_setForm .i0 (.reg .h)
  | set0_L => exact h_setForm .i0 (.reg .l)
  | set0_AtHL => exact h_setForm .i0 .atHL
  | set0_A => exact h_setForm .i0 (.reg .a)
  | set1_B => exact h_setForm .i1 (.reg .b)
  | set1_C => exact h_setForm .i1 (.reg .c)
  | set1_D => exact h_setForm .i1 (.reg .d)
  | set1_E => exact h_setForm .i1 (.reg .e)
  | set1_H => exact h_setForm .i1 (.reg .h)
  | set1_L => exact h_setForm .i1 (.reg .l)
  | set1_AtHL => exact h_setForm .i1 .atHL
  | set1_A => exact h_setForm .i1 (.reg .a)
  | set2_B => exact h_setForm .i2 (.reg .b)
  | set2_C => exact h_setForm .i2 (.reg .c)
  | set2_D => exact h_setForm .i2 (.reg .d)
  | set2_E => exact h_setForm .i2 (.reg .e)
  | set2_H => exact h_setForm .i2 (.reg .h)
  | set2_L => exact h_setForm .i2 (.reg .l)
  | set2_AtHL => exact h_setForm .i2 .atHL
  | set2_A => exact h_setForm .i2 (.reg .a)
  | set3_B => exact h_setForm .i3 (.reg .b)
  | set3_C => exact h_setForm .i3 (.reg .c)
  | set3_D => exact h_setForm .i3 (.reg .d)
  | set3_E => exact h_setForm .i3 (.reg .e)
  | set3_H => exact h_setForm .i3 (.reg .h)
  | set3_L => exact h_setForm .i3 (.reg .l)
  | set3_AtHL => exact h_setForm .i3 .atHL
  | set3_A => exact h_setForm .i3 (.reg .a)
  | set4_B => exact h_setForm .i4 (.reg .b)
  | set4_C => exact h_setForm .i4 (.reg .c)
  | set4_D => exact h_setForm .i4 (.reg .d)
  | set4_E => exact h_setForm .i4 (.reg .e)
  | set4_H => exact h_setForm .i4 (.reg .h)
  | set4_L => exact h_setForm .i4 (.reg .l)
  | set4_AtHL => exact h_setForm .i4 .atHL
  | set4_A => exact h_setForm .i4 (.reg .a)
  | set5_B => exact h_setForm .i5 (.reg .b)
  | set5_C => exact h_setForm .i5 (.reg .c)
  | set5_D => exact h_setForm .i5 (.reg .d)
  | set5_E => exact h_setForm .i5 (.reg .e)
  | set5_H => exact h_setForm .i5 (.reg .h)
  | set5_L => exact h_setForm .i5 (.reg .l)
  | set5_AtHL => exact h_setForm .i5 .atHL
  | set5_A => exact h_setForm .i5 (.reg .a)
  | set6_B => exact h_setForm .i6 (.reg .b)
  | set6_C => exact h_setForm .i6 (.reg .c)
  | set6_D => exact h_setForm .i6 (.reg .d)
  | set6_E => exact h_setForm .i6 (.reg .e)
  | set6_H => exact h_setForm .i6 (.reg .h)
  | set6_L => exact h_setForm .i6 (.reg .l)
  | set6_AtHL => exact h_setForm .i6 .atHL
  | set6_A => exact h_setForm .i6 (.reg .a)
  | set7_B => exact h_setForm .i7 (.reg .b)
  | set7_C => exact h_setForm .i7 (.reg .c)
  | set7_D => exact h_setForm .i7 (.reg .d)
  | set7_E => exact h_setForm .i7 (.reg .e)
  | set7_H => exact h_setForm .i7 (.reg .h)
  | set7_L => exact h_setForm .i7 (.reg .l)
  | set7_AtHL => exact h_setForm .i7 .atHL
  | set7_A => exact h_setForm .i7 (.reg .a)

end Sys2Proof.Machine
end

