-- ==== Sys2Proof/Laws/Memory.lean ====
section
/-!
SUPPORT. One memory array: a read after a write, and the canonical form and the size kept by every write.
-/

namespace Sys2Proof.Memory

theorem read_of_lt : ∀ {m : Memory} {lo i : Nat}, wfFrom lo m = true → i < lo → read m i = unlisted
  | [], _, _, _, _ => rfl
  | (k, v) :: m, lo, i, h, hi => by
    simp only [wfFrom, Bool.and_eq_true, decide_eq_true_eq] at h
    have : ¬ k = i := by omega
    simp only [read, this, if_false]
    exact read_of_lt h.2 (by omega)

theorem wfFrom_mono : ∀ {m : Memory} {lo lo' : Nat}, lo' ≤ lo → wfFrom lo m = true → wfFrom lo' m = true
  | [], _, _, _, _ => rfl
  | (k, v) :: m, lo, lo', h, hm => by
    simp only [wfFrom, Bool.and_eq_true, decide_eq_true_eq] at hm ⊢
    exact ⟨⟨by omega, hm.1.2⟩, hm.2⟩

/-- A read after a write to the same index gives the byte written, and a write leaves every other index alone. -/
theorem read_write : ∀ {m : Memory} {lo : Nat} (i j : Nat) (v : Byte), wfFrom lo m = true →
    read (write m i v) j = if i = j then v else read m j
  | [], lo, i, j, v, _ => by
    by_cases hv : v = unlisted <;> by_cases hij : i = j <;> simp [write, read, hv, hij]
  | (k, w) :: m, lo, i, j, v, h => by
    have h' := h
    simp only [wfFrom, Bool.and_eq_true, decide_eq_true_eq] at h
    have ih := read_write i j v h.2
    have below : ∀ x, x ≤ k → read m x = unlisted := fun x hx => read_of_lt h.2 (by omega)
    rcases lt_trichotomy i k with hik | rfl | hik
    · have e : write ((k, w) :: m) i v = if v = unlisted then (k, w) :: m else (i, v) :: (k, w) :: m := by
        simp [write, hik]
      rw [e]
      by_cases hij : i = j
      · subst hij
        have : ¬ k = i := by omega
        by_cases hv : v = unlisted <;> simp [hv, read, this, below i hik.le]
      · by_cases hv : v = unlisted <;> simp [hv, hij, read]
    · by_cases hij : i = j
      · subst hij
        by_cases hv : v = unlisted <;> simp [write, hv, read, below i (le_refl i)]
      · by_cases hv : v = unlisted <;> simp [write, hv, hij, read]
    · have n1 : ¬ i < k := by omega
      have n2 : ¬ i = k := by omega
      have e : write ((k, w) :: m) i v = (k, w) :: write m i v := by simp [write, n1, n2]
      rw [e]
      by_cases hkj : k = j
      · subst hkj
        simp [read, n2]
      · simp [read, hkj, ih]

@[simp] theorem read_write_same {m : Memory} (i : Nat) (v : Byte) (h : wf m = true) : read (write m i v) i = v := by
  simp [read_write i i v h]

/-- A write leaves every other index, whatever the form of the list. -/
theorem read_write_ne : ∀ (m : Memory) {i j : Nat} (v : Byte), i ≠ j → read (write m i v) j = read m j
  | [], i, j, v, h => by
    by_cases hv : v = unlisted <;> simp [write, read, hv, h]
  | (k, w) :: m, i, j, v, h => by
    have ih := read_write_ne m v h
    unfold write
    split
    · split <;> simp [read, h]
    · split
      · subst i
        split <;> simp [read, h]
      · simp [read, ih]

theorem read_write_other {m : Memory} {i j : Nat} (v : Byte) (h : wf m = true) (hij : i ≠ j) :
    read (write m i v) j = read m j := by
  simp [read_write i j v h, hij]

theorem wfFrom_write : ∀ {m : Memory} {lo : Nat} (i : Nat) (v : Byte), wfFrom lo m = true → lo ≤ i →
    wfFrom lo (write m i v) = true
  | [], lo, i, v, _, hi => by
    by_cases hv : v = unlisted <;> simp [write, wfFrom, hv, hi]
  | (k, w) :: m, lo, i, v, h, hi => by
    have h' := h
    simp only [wfFrom, Bool.and_eq_true, decide_eq_true_eq] at h
    unfold write
    by_cases hik : i < k
    · by_cases hv : v = unlisted
      · simpa [hik, hv] using h'
      · have h2 : wfFrom (k + 1) m = true := h.2
        simp [hik, hv, wfFrom, hi, h2]
        simpa using h.1.2
    · by_cases hek : i = k
      · subst hek
        by_cases hv : v = unlisted
        · simp only [lt_irrefl, hv, if_true, if_false]
          exact wfFrom_mono (by omega) h.2
        · simp [hv, wfFrom, hi, h.2]
      · have ih := wfFrom_write i v h.2 (by omega : k + 1 ≤ i)
        simp only [hik, hek, if_false, wfFrom, ih, Bool.and_true]
        simpa using h.1

/-- A write keeps the canonical form. -/
@[simp] theorem wf_write {m : Memory} (i : Nat) (v : Byte) (h : wf m = true) : wf (write m i v) = true :=
  wfFrom_write i v h (Nat.zero_le i)

/-- A write inside the size of an array keeps its listed indexes inside. -/
theorem within_write {n : Nat} : ∀ {m : Memory} {i : Nat} (v : Byte), Machine.memWithin n m = true → i < n →
    Machine.memWithin n (write m i v) = true
  | [], i, v, _, hi => by
    by_cases hv : v = unlisted <;> simp [write, Machine.memWithin, hv, hi]
  | (k, w) :: m, i, v, h, hi => by
    have h' := h
    simp only [Machine.memWithin, List.all_cons, Bool.and_eq_true, decide_eq_true_eq] at h
    unfold write
    by_cases hik : i < k
    · by_cases hv : v = unlisted
      · simpa [hik, hv] using h'
      · simp only [hik, hv, if_true, if_false, Machine.memWithin, List.all_cons, Bool.and_eq_true, decide_eq_true_eq]
        exact ⟨hi, h⟩
    · by_cases hek : i = k
      · by_cases hv : v = unlisted
        · simp only [hek, lt_irrefl, hv, if_true, if_false]
          exact h.2
        · simp only [hek, lt_irrefl, hv, if_true, if_false, Machine.memWithin, List.all_cons, Bool.and_eq_true,
            decide_eq_true_eq]
          exact ⟨h.1, h.2⟩
      · have ih := within_write v (h.2 : Machine.memWithin n m = true) hi
        simp only [hik, hek, if_false, Machine.memWithin, List.all_cons, Bool.and_eq_true, decide_eq_true_eq]
        exact ⟨h.1, ih⟩

/-- A store inside an array keeps it in form. -/
theorem arrayOk_write {n : Nat} {m : Memory} {i : Nat} (v : Byte) (h : Machine.arrayOk n m = true) (hi : i < n) :
    Machine.arrayOk n (write m i v) = true := by
  simp only [Machine.arrayOk, Bool.and_eq_true] at h ⊢
  exact ⟨wf_write i v h.1, within_write v h.2 hi⟩

/-- Memory at reset is in form: nothing is listed. -/
theorem wf_nil : wf [] = true := rfl

end Sys2Proof.Memory
end

