-- ==== Sys2Proof/Laws/State.lean ====
section
/-!
SUPPORT. What each update leaves alone: one lemma per field per named operation. A later proof cites these (as simp
lemmas) and never unfolds a record update.
-/

namespace Sys2Proof.Machine

/-! ### A register write -/

@[simp] theorem State.setReg_f (s : State) (r : Reg8) (v : Byte) : (s.setReg r v).f = s.f := by cases r <;> rfl
@[simp] theorem State.setReg_sp (s : State) (r : Reg8) (v : Byte) : (s.setReg r v).sp = s.sp := by cases r <;> rfl
@[simp] theorem State.setReg_pc (s : State) (r : Reg8) (v : Byte) : (s.setReg r v).pc = s.pc := by cases r <;> rfl
@[simp] theorem State.setReg_ime (s : State) (r : Reg8) (v : Byte) : (s.setReg r v).ime = s.ime := by cases r <;> rfl
@[simp] theorem State.setReg_halted (s : State) (r : Reg8) (v : Byte) : (s.setReg r v).halted = s.halted := by cases r <;> rfl
@[simp] theorem State.setReg_ifReg (s : State) (r : Reg8) (v : Byte) : (s.setReg r v).ifReg = s.ifReg := by cases r <;> rfl
@[simp] theorem State.setReg_ieReg (s : State) (r : Reg8) (v : Byte) : (s.setReg r v).ieReg = s.ieReg := by cases r <;> rfl
@[simp] theorem State.setReg_vram (s : State) (r : Reg8) (v : Byte) : (s.setReg r v).vram = s.vram := by cases r <;> rfl
@[simp] theorem State.setReg_eram (s : State) (r : Reg8) (v : Byte) : (s.setReg r v).eram = s.eram := by cases r <;> rfl
@[simp] theorem State.setReg_wram (s : State) (r : Reg8) (v : Byte) : (s.setReg r v).wram = s.wram := by cases r <;> rfl
@[simp] theorem State.setReg_oam (s : State) (r : Reg8) (v : Byte) : (s.setReg r v).oam = s.oam := by cases r <;> rfl
@[simp] theorem State.setReg_hram (s : State) (r : Reg8) (v : Byte) : (s.setReg r v).hram = s.hram := by cases r <;> rfl
@[simp] theorem State.setReg_bootActive (s : State) (r : Reg8) (v : Byte) : (s.setReg r v).bootActive = s.bootActive := by cases r <;> rfl
@[simp] theorem State.setReg_rom1Sel (s : State) (r : Reg8) (v : Byte) : (s.setReg r v).rom1Sel = s.rom1Sel := by cases r <;> rfl
@[simp] theorem State.setReg_eramSel (s : State) (r : Reg8) (v : Byte) : (s.setReg r v).eramSel = s.eramSel := by cases r <;> rfl
@[simp] theorem State.setReg_vramSel (s : State) (r : Reg8) (v : Byte) : (s.setReg r v).vramSel = s.vramSel := by cases r <;> rfl
@[simp] theorem State.setReg_wramSel (s : State) (r : Reg8) (v : Byte) : (s.setReg r v).wramSel = s.wramSel := by cases r <;> rfl
@[simp] theorem State.setReg_mbc (s : State) (r : Reg8) (v : Byte) : (s.setReg r v).mbc = s.mbc := by cases r <;> rfl
@[simp] theorem State.setReg_faultLatch (s : State) (r : Reg8) (v : Byte) : (s.setReg r v).faultLatch = s.faultLatch := by cases r <;> rfl
@[simp] theorem State.setReg_par (s : State) (r : Reg8) (v : Byte) : (s.setReg r v).par = s.par := by cases r <;> rfl
@[simp] theorem State.setReg_irqIn (s : State) (r : Reg8) (v : Byte) : (s.setReg r v).irqIn = s.irqIn := by cases r <;> rfl
@[simp] theorem State.setReg_periphIn (s : State) (r : Reg8) (v : Byte) : (s.setReg r v).periphIn = s.periphIn := by cases r <;> rfl
@[simp] theorem State.setReg_periphCount (s : State) (r : Reg8) (v : Byte) : (s.setReg r v).periphCount = s.periphCount := by cases r <;> rfl
@[simp] theorem State.setReg_events (s : State) (r : Reg8) (v : Byte) : (s.setReg r v).events = s.events := by cases r <;> rfl
@[simp] theorem State.setReg_cycles (s : State) (r : Reg8) (v : Byte) : (s.setReg r v).cycles = s.cycles := by cases r <;> rfl

/-! ### A write of F -/

@[simp] theorem State.setF_a (s : State) (v : Byte) : (s.setF v).a = s.a := rfl
@[simp] theorem State.setF_b (s : State) (v : Byte) : (s.setF v).b = s.b := rfl
@[simp] theorem State.setF_c (s : State) (v : Byte) : (s.setF v).c = s.c := rfl
@[simp] theorem State.setF_d (s : State) (v : Byte) : (s.setF v).d = s.d := rfl
@[simp] theorem State.setF_e (s : State) (v : Byte) : (s.setF v).e = s.e := rfl
@[simp] theorem State.setF_h (s : State) (v : Byte) : (s.setF v).h = s.h := rfl
@[simp] theorem State.setF_l (s : State) (v : Byte) : (s.setF v).l = s.l := rfl
@[simp] theorem State.setF_sp (s : State) (v : Byte) : (s.setF v).sp = s.sp := rfl
@[simp] theorem State.setF_pc (s : State) (v : Byte) : (s.setF v).pc = s.pc := rfl
@[simp] theorem State.setF_ime (s : State) (v : Byte) : (s.setF v).ime = s.ime := rfl
@[simp] theorem State.setF_halted (s : State) (v : Byte) : (s.setF v).halted = s.halted := rfl
@[simp] theorem State.setF_ifReg (s : State) (v : Byte) : (s.setF v).ifReg = s.ifReg := rfl
@[simp] theorem State.setF_ieReg (s : State) (v : Byte) : (s.setF v).ieReg = s.ieReg := rfl
@[simp] theorem State.setF_vram (s : State) (v : Byte) : (s.setF v).vram = s.vram := rfl
@[simp] theorem State.setF_eram (s : State) (v : Byte) : (s.setF v).eram = s.eram := rfl
@[simp] theorem State.setF_wram (s : State) (v : Byte) : (s.setF v).wram = s.wram := rfl
@[simp] theorem State.setF_oam (s : State) (v : Byte) : (s.setF v).oam = s.oam := rfl
@[simp] theorem State.setF_hram (s : State) (v : Byte) : (s.setF v).hram = s.hram := rfl
@[simp] theorem State.setF_bootActive (s : State) (v : Byte) : (s.setF v).bootActive = s.bootActive := rfl
@[simp] theorem State.setF_rom1Sel (s : State) (v : Byte) : (s.setF v).rom1Sel = s.rom1Sel := rfl
@[simp] theorem State.setF_eramSel (s : State) (v : Byte) : (s.setF v).eramSel = s.eramSel := rfl
@[simp] theorem State.setF_vramSel (s : State) (v : Byte) : (s.setF v).vramSel = s.vramSel := rfl
@[simp] theorem State.setF_wramSel (s : State) (v : Byte) : (s.setF v).wramSel = s.wramSel := rfl
@[simp] theorem State.setF_mbc (s : State) (v : Byte) : (s.setF v).mbc = s.mbc := rfl
@[simp] theorem State.setF_faultLatch (s : State) (v : Byte) : (s.setF v).faultLatch = s.faultLatch := rfl
@[simp] theorem State.setF_par (s : State) (v : Byte) : (s.setF v).par = s.par := rfl
@[simp] theorem State.setF_irqIn (s : State) (v : Byte) : (s.setF v).irqIn = s.irqIn := rfl
@[simp] theorem State.setF_periphIn (s : State) (v : Byte) : (s.setF v).periphIn = s.periphIn := rfl
@[simp] theorem State.setF_periphCount (s : State) (v : Byte) : (s.setF v).periphCount = s.periphCount := rfl
@[simp] theorem State.setF_events (s : State) (v : Byte) : (s.setF v).events = s.events := rfl
@[simp] theorem State.setF_cycles (s : State) (v : Byte) : (s.setF v).cycles = s.cycles := rfl

/-! ### The four flags -/

@[simp] theorem State.setFlags_a (s : State) (z : Bool) (n : Bool) (h : Bool) (c : Bool) : (s.setFlags z n h c).a = s.a := rfl
@[simp] theorem State.setFlags_b (s : State) (z : Bool) (n : Bool) (h : Bool) (c : Bool) : (s.setFlags z n h c).b = s.b := rfl
@[simp] theorem State.setFlags_c (s : State) (z : Bool) (n : Bool) (h : Bool) (c : Bool) : (s.setFlags z n h c).c = s.c := rfl
@[simp] theorem State.setFlags_d (s : State) (z : Bool) (n : Bool) (h : Bool) (c : Bool) : (s.setFlags z n h c).d = s.d := rfl
@[simp] theorem State.setFlags_e (s : State) (z : Bool) (n : Bool) (h : Bool) (c : Bool) : (s.setFlags z n h c).e = s.e := rfl
@[simp] theorem State.setFlags_h (s : State) (z : Bool) (n : Bool) (h : Bool) (c : Bool) : (s.setFlags z n h c).h = s.h := rfl
@[simp] theorem State.setFlags_l (s : State) (z : Bool) (n : Bool) (h : Bool) (c : Bool) : (s.setFlags z n h c).l = s.l := rfl
@[simp] theorem State.setFlags_sp (s : State) (z : Bool) (n : Bool) (h : Bool) (c : Bool) : (s.setFlags z n h c).sp = s.sp := rfl
@[simp] theorem State.setFlags_pc (s : State) (z : Bool) (n : Bool) (h : Bool) (c : Bool) : (s.setFlags z n h c).pc = s.pc := rfl
@[simp] theorem State.setFlags_ime (s : State) (z : Bool) (n : Bool) (h : Bool) (c : Bool) : (s.setFlags z n h c).ime = s.ime := rfl
@[simp] theorem State.setFlags_halted (s : State) (z : Bool) (n : Bool) (h : Bool) (c : Bool) : (s.setFlags z n h c).halted = s.halted := rfl
@[simp] theorem State.setFlags_ifReg (s : State) (z : Bool) (n : Bool) (h : Bool) (c : Bool) : (s.setFlags z n h c).ifReg = s.ifReg := rfl
@[simp] theorem State.setFlags_ieReg (s : State) (z : Bool) (n : Bool) (h : Bool) (c : Bool) : (s.setFlags z n h c).ieReg = s.ieReg := rfl
@[simp] theorem State.setFlags_vram (s : State) (z : Bool) (n : Bool) (h : Bool) (c : Bool) : (s.setFlags z n h c).vram = s.vram := rfl
@[simp] theorem State.setFlags_eram (s : State) (z : Bool) (n : Bool) (h : Bool) (c : Bool) : (s.setFlags z n h c).eram = s.eram := rfl
@[simp] theorem State.setFlags_wram (s : State) (z : Bool) (n : Bool) (h : Bool) (c : Bool) : (s.setFlags z n h c).wram = s.wram := rfl
@[simp] theorem State.setFlags_oam (s : State) (z : Bool) (n : Bool) (h : Bool) (c : Bool) : (s.setFlags z n h c).oam = s.oam := rfl
@[simp] theorem State.setFlags_hram (s : State) (z : Bool) (n : Bool) (h : Bool) (c : Bool) : (s.setFlags z n h c).hram = s.hram := rfl
@[simp] theorem State.setFlags_bootActive (s : State) (z : Bool) (n : Bool) (h : Bool) (c : Bool) : (s.setFlags z n h c).bootActive = s.bootActive := rfl
@[simp] theorem State.setFlags_rom1Sel (s : State) (z : Bool) (n : Bool) (h : Bool) (c : Bool) : (s.setFlags z n h c).rom1Sel = s.rom1Sel := rfl
@[simp] theorem State.setFlags_eramSel (s : State) (z : Bool) (n : Bool) (h : Bool) (c : Bool) : (s.setFlags z n h c).eramSel = s.eramSel := rfl
@[simp] theorem State.setFlags_vramSel (s : State) (z : Bool) (n : Bool) (h : Bool) (c : Bool) : (s.setFlags z n h c).vramSel = s.vramSel := rfl
@[simp] theorem State.setFlags_wramSel (s : State) (z : Bool) (n : Bool) (h : Bool) (c : Bool) : (s.setFlags z n h c).wramSel = s.wramSel := rfl
@[simp] theorem State.setFlags_mbc (s : State) (z : Bool) (n : Bool) (h : Bool) (c : Bool) : (s.setFlags z n h c).mbc = s.mbc := rfl
@[simp] theorem State.setFlags_faultLatch (s : State) (z : Bool) (n : Bool) (h : Bool) (c : Bool) : (s.setFlags z n h c).faultLatch = s.faultLatch := rfl
@[simp] theorem State.setFlags_par (s : State) (z : Bool) (n : Bool) (h : Bool) (c : Bool) : (s.setFlags z n h c).par = s.par := rfl
@[simp] theorem State.setFlags_irqIn (s : State) (z : Bool) (n : Bool) (h : Bool) (c : Bool) : (s.setFlags z n h c).irqIn = s.irqIn := rfl
@[simp] theorem State.setFlags_periphIn (s : State) (z : Bool) (n : Bool) (h : Bool) (c : Bool) : (s.setFlags z n h c).periphIn = s.periphIn := rfl
@[simp] theorem State.setFlags_periphCount (s : State) (z : Bool) (n : Bool) (h : Bool) (c : Bool) : (s.setFlags z n h c).periphCount = s.periphCount := rfl
@[simp] theorem State.setFlags_events (s : State) (z : Bool) (n : Bool) (h : Bool) (c : Bool) : (s.setFlags z n h c).events = s.events := rfl
@[simp] theorem State.setFlags_cycles (s : State) (z : Bool) (n : Bool) (h : Bool) (c : Bool) : (s.setFlags z n h c).cycles = s.cycles := rfl

/-! ### A write of HL -/

@[simp] theorem State.setHL_a (s : State) (v : Word) : (s.setHL v).a = s.a := rfl
@[simp] theorem State.setHL_f (s : State) (v : Word) : (s.setHL v).f = s.f := rfl
@[simp] theorem State.setHL_b (s : State) (v : Word) : (s.setHL v).b = s.b := rfl
@[simp] theorem State.setHL_c (s : State) (v : Word) : (s.setHL v).c = s.c := rfl
@[simp] theorem State.setHL_d (s : State) (v : Word) : (s.setHL v).d = s.d := rfl
@[simp] theorem State.setHL_e (s : State) (v : Word) : (s.setHL v).e = s.e := rfl
@[simp] theorem State.setHL_sp (s : State) (v : Word) : (s.setHL v).sp = s.sp := rfl
@[simp] theorem State.setHL_pc (s : State) (v : Word) : (s.setHL v).pc = s.pc := rfl
@[simp] theorem State.setHL_ime (s : State) (v : Word) : (s.setHL v).ime = s.ime := rfl
@[simp] theorem State.setHL_halted (s : State) (v : Word) : (s.setHL v).halted = s.halted := rfl
@[simp] theorem State.setHL_ifReg (s : State) (v : Word) : (s.setHL v).ifReg = s.ifReg := rfl
@[simp] theorem State.setHL_ieReg (s : State) (v : Word) : (s.setHL v).ieReg = s.ieReg := rfl
@[simp] theorem State.setHL_vram (s : State) (v : Word) : (s.setHL v).vram = s.vram := rfl
@[simp] theorem State.setHL_eram (s : State) (v : Word) : (s.setHL v).eram = s.eram := rfl
@[simp] theorem State.setHL_wram (s : State) (v : Word) : (s.setHL v).wram = s.wram := rfl
@[simp] theorem State.setHL_oam (s : State) (v : Word) : (s.setHL v).oam = s.oam := rfl
@[simp] theorem State.setHL_hram (s : State) (v : Word) : (s.setHL v).hram = s.hram := rfl
@[simp] theorem State.setHL_bootActive (s : State) (v : Word) : (s.setHL v).bootActive = s.bootActive := rfl
@[simp] theorem State.setHL_rom1Sel (s : State) (v : Word) : (s.setHL v).rom1Sel = s.rom1Sel := rfl
@[simp] theorem State.setHL_eramSel (s : State) (v : Word) : (s.setHL v).eramSel = s.eramSel := rfl
@[simp] theorem State.setHL_vramSel (s : State) (v : Word) : (s.setHL v).vramSel = s.vramSel := rfl
@[simp] theorem State.setHL_wramSel (s : State) (v : Word) : (s.setHL v).wramSel = s.wramSel := rfl
@[simp] theorem State.setHL_mbc (s : State) (v : Word) : (s.setHL v).mbc = s.mbc := rfl
@[simp] theorem State.setHL_faultLatch (s : State) (v : Word) : (s.setHL v).faultLatch = s.faultLatch := rfl
@[simp] theorem State.setHL_par (s : State) (v : Word) : (s.setHL v).par = s.par := rfl
@[simp] theorem State.setHL_irqIn (s : State) (v : Word) : (s.setHL v).irqIn = s.irqIn := rfl
@[simp] theorem State.setHL_periphIn (s : State) (v : Word) : (s.setHL v).periphIn = s.periphIn := rfl
@[simp] theorem State.setHL_periphCount (s : State) (v : Word) : (s.setHL v).periphCount = s.periphCount := rfl
@[simp] theorem State.setHL_events (s : State) (v : Word) : (s.setHL v).events = s.events := rfl
@[simp] theorem State.setHL_cycles (s : State) (v : Word) : (s.setHL v).cycles = s.cycles := rfl

/-! ### A write of a pair -/

@[simp] theorem State.setPair_a (s : State) (r : Reg16) (v : Word) : (s.setPair r v).a = s.a := by cases r <;> rfl
@[simp] theorem State.setPair_f (s : State) (r : Reg16) (v : Word) : (s.setPair r v).f = s.f := by cases r <;> rfl
@[simp] theorem State.setPair_pc (s : State) (r : Reg16) (v : Word) : (s.setPair r v).pc = s.pc := by cases r <;> rfl
@[simp] theorem State.setPair_ime (s : State) (r : Reg16) (v : Word) : (s.setPair r v).ime = s.ime := by cases r <;> rfl
@[simp] theorem State.setPair_halted (s : State) (r : Reg16) (v : Word) : (s.setPair r v).halted = s.halted := by cases r <;> rfl
@[simp] theorem State.setPair_ifReg (s : State) (r : Reg16) (v : Word) : (s.setPair r v).ifReg = s.ifReg := by cases r <;> rfl
@[simp] theorem State.setPair_ieReg (s : State) (r : Reg16) (v : Word) : (s.setPair r v).ieReg = s.ieReg := by cases r <;> rfl
@[simp] theorem State.setPair_vram (s : State) (r : Reg16) (v : Word) : (s.setPair r v).vram = s.vram := by cases r <;> rfl
@[simp] theorem State.setPair_eram (s : State) (r : Reg16) (v : Word) : (s.setPair r v).eram = s.eram := by cases r <;> rfl
@[simp] theorem State.setPair_wram (s : State) (r : Reg16) (v : Word) : (s.setPair r v).wram = s.wram := by cases r <;> rfl
@[simp] theorem State.setPair_oam (s : State) (r : Reg16) (v : Word) : (s.setPair r v).oam = s.oam := by cases r <;> rfl
@[simp] theorem State.setPair_hram (s : State) (r : Reg16) (v : Word) : (s.setPair r v).hram = s.hram := by cases r <;> rfl
@[simp] theorem State.setPair_bootActive (s : State) (r : Reg16) (v : Word) : (s.setPair r v).bootActive = s.bootActive := by cases r <;> rfl
@[simp] theorem State.setPair_rom1Sel (s : State) (r : Reg16) (v : Word) : (s.setPair r v).rom1Sel = s.rom1Sel := by cases r <;> rfl
@[simp] theorem State.setPair_eramSel (s : State) (r : Reg16) (v : Word) : (s.setPair r v).eramSel = s.eramSel := by cases r <;> rfl
@[simp] theorem State.setPair_vramSel (s : State) (r : Reg16) (v : Word) : (s.setPair r v).vramSel = s.vramSel := by cases r <;> rfl
@[simp] theorem State.setPair_wramSel (s : State) (r : Reg16) (v : Word) : (s.setPair r v).wramSel = s.wramSel := by cases r <;> rfl
@[simp] theorem State.setPair_mbc (s : State) (r : Reg16) (v : Word) : (s.setPair r v).mbc = s.mbc := by cases r <;> rfl
@[simp] theorem State.setPair_faultLatch (s : State) (r : Reg16) (v : Word) : (s.setPair r v).faultLatch = s.faultLatch := by cases r <;> rfl
@[simp] theorem State.setPair_par (s : State) (r : Reg16) (v : Word) : (s.setPair r v).par = s.par := by cases r <;> rfl
@[simp] theorem State.setPair_irqIn (s : State) (r : Reg16) (v : Word) : (s.setPair r v).irqIn = s.irqIn := by cases r <;> rfl
@[simp] theorem State.setPair_periphIn (s : State) (r : Reg16) (v : Word) : (s.setPair r v).periphIn = s.periphIn := by cases r <;> rfl
@[simp] theorem State.setPair_periphCount (s : State) (r : Reg16) (v : Word) : (s.setPair r v).periphCount = s.periphCount := by cases r <;> rfl
@[simp] theorem State.setPair_events (s : State) (r : Reg16) (v : Word) : (s.setPair r v).events = s.events := by cases r <;> rfl
@[simp] theorem State.setPair_cycles (s : State) (r : Reg16) (v : Word) : (s.setPair r v).cycles = s.cycles := by cases r <;> rfl

/-! ### A write of a stack pair -/

@[simp] theorem State.setStk_sp (s : State) (q : Stk16) (v : Word) : (s.setStk q v).sp = s.sp := by cases q <;> rfl
@[simp] theorem State.setStk_pc (s : State) (q : Stk16) (v : Word) : (s.setStk q v).pc = s.pc := by cases q <;> rfl
@[simp] theorem State.setStk_ime (s : State) (q : Stk16) (v : Word) : (s.setStk q v).ime = s.ime := by cases q <;> rfl
@[simp] theorem State.setStk_halted (s : State) (q : Stk16) (v : Word) : (s.setStk q v).halted = s.halted := by cases q <;> rfl
@[simp] theorem State.setStk_ifReg (s : State) (q : Stk16) (v : Word) : (s.setStk q v).ifReg = s.ifReg := by cases q <;> rfl
@[simp] theorem State.setStk_ieReg (s : State) (q : Stk16) (v : Word) : (s.setStk q v).ieReg = s.ieReg := by cases q <;> rfl
@[simp] theorem State.setStk_vram (s : State) (q : Stk16) (v : Word) : (s.setStk q v).vram = s.vram := by cases q <;> rfl
@[simp] theorem State.setStk_eram (s : State) (q : Stk16) (v : Word) : (s.setStk q v).eram = s.eram := by cases q <;> rfl
@[simp] theorem State.setStk_wram (s : State) (q : Stk16) (v : Word) : (s.setStk q v).wram = s.wram := by cases q <;> rfl
@[simp] theorem State.setStk_oam (s : State) (q : Stk16) (v : Word) : (s.setStk q v).oam = s.oam := by cases q <;> rfl
@[simp] theorem State.setStk_hram (s : State) (q : Stk16) (v : Word) : (s.setStk q v).hram = s.hram := by cases q <;> rfl
@[simp] theorem State.setStk_bootActive (s : State) (q : Stk16) (v : Word) : (s.setStk q v).bootActive = s.bootActive := by cases q <;> rfl
@[simp] theorem State.setStk_rom1Sel (s : State) (q : Stk16) (v : Word) : (s.setStk q v).rom1Sel = s.rom1Sel := by cases q <;> rfl
@[simp] theorem State.setStk_eramSel (s : State) (q : Stk16) (v : Word) : (s.setStk q v).eramSel = s.eramSel := by cases q <;> rfl
@[simp] theorem State.setStk_vramSel (s : State) (q : Stk16) (v : Word) : (s.setStk q v).vramSel = s.vramSel := by cases q <;> rfl
@[simp] theorem State.setStk_wramSel (s : State) (q : Stk16) (v : Word) : (s.setStk q v).wramSel = s.wramSel := by cases q <;> rfl
@[simp] theorem State.setStk_mbc (s : State) (q : Stk16) (v : Word) : (s.setStk q v).mbc = s.mbc := by cases q <;> rfl
@[simp] theorem State.setStk_faultLatch (s : State) (q : Stk16) (v : Word) : (s.setStk q v).faultLatch = s.faultLatch := by cases q <;> rfl
@[simp] theorem State.setStk_par (s : State) (q : Stk16) (v : Word) : (s.setStk q v).par = s.par := by cases q <;> rfl
@[simp] theorem State.setStk_irqIn (s : State) (q : Stk16) (v : Word) : (s.setStk q v).irqIn = s.irqIn := by cases q <;> rfl
@[simp] theorem State.setStk_periphIn (s : State) (q : Stk16) (v : Word) : (s.setStk q v).periphIn = s.periphIn := by cases q <;> rfl
@[simp] theorem State.setStk_periphCount (s : State) (q : Stk16) (v : Word) : (s.setStk q v).periphCount = s.periphCount := by cases q <;> rfl
@[simp] theorem State.setStk_events (s : State) (q : Stk16) (v : Word) : (s.setStk q v).events = s.events := by cases q <;> rfl
@[simp] theorem State.setStk_cycles (s : State) (q : Stk16) (v : Word) : (s.setStk q v).cycles = s.cycles := by cases q <;> rfl

/-! ### The cycle count -/

@[simp] theorem State.report_a (s : State) (n : Nat) : (s.report n).a = s.a := rfl
@[simp] theorem State.report_f (s : State) (n : Nat) : (s.report n).f = s.f := rfl
@[simp] theorem State.report_b (s : State) (n : Nat) : (s.report n).b = s.b := rfl
@[simp] theorem State.report_c (s : State) (n : Nat) : (s.report n).c = s.c := rfl
@[simp] theorem State.report_d (s : State) (n : Nat) : (s.report n).d = s.d := rfl
@[simp] theorem State.report_e (s : State) (n : Nat) : (s.report n).e = s.e := rfl
@[simp] theorem State.report_h (s : State) (n : Nat) : (s.report n).h = s.h := rfl
@[simp] theorem State.report_l (s : State) (n : Nat) : (s.report n).l = s.l := rfl
@[simp] theorem State.report_sp (s : State) (n : Nat) : (s.report n).sp = s.sp := rfl
@[simp] theorem State.report_pc (s : State) (n : Nat) : (s.report n).pc = s.pc := rfl
@[simp] theorem State.report_ime (s : State) (n : Nat) : (s.report n).ime = s.ime := rfl
@[simp] theorem State.report_halted (s : State) (n : Nat) : (s.report n).halted = s.halted := rfl
@[simp] theorem State.report_ifReg (s : State) (n : Nat) : (s.report n).ifReg = s.ifReg := rfl
@[simp] theorem State.report_ieReg (s : State) (n : Nat) : (s.report n).ieReg = s.ieReg := rfl
@[simp] theorem State.report_vram (s : State) (n : Nat) : (s.report n).vram = s.vram := rfl
@[simp] theorem State.report_eram (s : State) (n : Nat) : (s.report n).eram = s.eram := rfl
@[simp] theorem State.report_wram (s : State) (n : Nat) : (s.report n).wram = s.wram := rfl
@[simp] theorem State.report_oam (s : State) (n : Nat) : (s.report n).oam = s.oam := rfl
@[simp] theorem State.report_hram (s : State) (n : Nat) : (s.report n).hram = s.hram := rfl
@[simp] theorem State.report_bootActive (s : State) (n : Nat) : (s.report n).bootActive = s.bootActive := rfl
@[simp] theorem State.report_rom1Sel (s : State) (n : Nat) : (s.report n).rom1Sel = s.rom1Sel := rfl
@[simp] theorem State.report_eramSel (s : State) (n : Nat) : (s.report n).eramSel = s.eramSel := rfl
@[simp] theorem State.report_vramSel (s : State) (n : Nat) : (s.report n).vramSel = s.vramSel := rfl
@[simp] theorem State.report_wramSel (s : State) (n : Nat) : (s.report n).wramSel = s.wramSel := rfl
@[simp] theorem State.report_mbc (s : State) (n : Nat) : (s.report n).mbc = s.mbc := rfl
@[simp] theorem State.report_faultLatch (s : State) (n : Nat) : (s.report n).faultLatch = s.faultLatch := rfl
@[simp] theorem State.report_par (s : State) (n : Nat) : (s.report n).par = s.par := rfl
@[simp] theorem State.report_irqIn (s : State) (n : Nat) : (s.report n).irqIn = s.irqIn := rfl
@[simp] theorem State.report_periphIn (s : State) (n : Nat) : (s.report n).periphIn = s.periphIn := rfl
@[simp] theorem State.report_periphCount (s : State) (n : Nat) : (s.report n).periphCount = s.periphCount := rfl
@[simp] theorem State.report_events (s : State) (n : Nat) : (s.report n).events = s.events := rfl

/-! ### An event -/

@[simp] theorem State.emit_a (s : State) (x : Event) : (s.emit x).a = s.a := rfl
@[simp] theorem State.emit_f (s : State) (x : Event) : (s.emit x).f = s.f := rfl
@[simp] theorem State.emit_b (s : State) (x : Event) : (s.emit x).b = s.b := rfl
@[simp] theorem State.emit_c (s : State) (x : Event) : (s.emit x).c = s.c := rfl
@[simp] theorem State.emit_d (s : State) (x : Event) : (s.emit x).d = s.d := rfl
@[simp] theorem State.emit_e (s : State) (x : Event) : (s.emit x).e = s.e := rfl
@[simp] theorem State.emit_h (s : State) (x : Event) : (s.emit x).h = s.h := rfl
@[simp] theorem State.emit_l (s : State) (x : Event) : (s.emit x).l = s.l := rfl
@[simp] theorem State.emit_sp (s : State) (x : Event) : (s.emit x).sp = s.sp := rfl
@[simp] theorem State.emit_pc (s : State) (x : Event) : (s.emit x).pc = s.pc := rfl
@[simp] theorem State.emit_ime (s : State) (x : Event) : (s.emit x).ime = s.ime := rfl
@[simp] theorem State.emit_halted (s : State) (x : Event) : (s.emit x).halted = s.halted := rfl
@[simp] theorem State.emit_ifReg (s : State) (x : Event) : (s.emit x).ifReg = s.ifReg := rfl
@[simp] theorem State.emit_ieReg (s : State) (x : Event) : (s.emit x).ieReg = s.ieReg := rfl
@[simp] theorem State.emit_vram (s : State) (x : Event) : (s.emit x).vram = s.vram := rfl
@[simp] theorem State.emit_eram (s : State) (x : Event) : (s.emit x).eram = s.eram := rfl
@[simp] theorem State.emit_wram (s : State) (x : Event) : (s.emit x).wram = s.wram := rfl
@[simp] theorem State.emit_oam (s : State) (x : Event) : (s.emit x).oam = s.oam := rfl
@[simp] theorem State.emit_hram (s : State) (x : Event) : (s.emit x).hram = s.hram := rfl
@[simp] theorem State.emit_bootActive (s : State) (x : Event) : (s.emit x).bootActive = s.bootActive := rfl
@[simp] theorem State.emit_rom1Sel (s : State) (x : Event) : (s.emit x).rom1Sel = s.rom1Sel := rfl
@[simp] theorem State.emit_eramSel (s : State) (x : Event) : (s.emit x).eramSel = s.eramSel := rfl
@[simp] theorem State.emit_vramSel (s : State) (x : Event) : (s.emit x).vramSel = s.vramSel := rfl
@[simp] theorem State.emit_wramSel (s : State) (x : Event) : (s.emit x).wramSel = s.wramSel := rfl
@[simp] theorem State.emit_mbc (s : State) (x : Event) : (s.emit x).mbc = s.mbc := rfl
@[simp] theorem State.emit_faultLatch (s : State) (x : Event) : (s.emit x).faultLatch = s.faultLatch := rfl
@[simp] theorem State.emit_par (s : State) (x : Event) : (s.emit x).par = s.par := rfl
@[simp] theorem State.emit_irqIn (s : State) (x : Event) : (s.emit x).irqIn = s.irqIn := rfl
@[simp] theorem State.emit_periphIn (s : State) (x : Event) : (s.emit x).periphIn = s.periphIn := rfl
@[simp] theorem State.emit_periphCount (s : State) (x : Event) : (s.emit x).periphCount = s.periphCount := rfl
@[simp] theorem State.emit_cycles (s : State) (x : Event) : (s.emit x).cycles = s.cycles := rfl

/-! ### A diagnostic -/

@[simp] theorem State.diag_a (s : State) (k : DiagKind) (x : Word) : (s.diag k x).a = s.a := rfl
@[simp] theorem State.diag_f (s : State) (k : DiagKind) (x : Word) : (s.diag k x).f = s.f := rfl
@[simp] theorem State.diag_b (s : State) (k : DiagKind) (x : Word) : (s.diag k x).b = s.b := rfl
@[simp] theorem State.diag_c (s : State) (k : DiagKind) (x : Word) : (s.diag k x).c = s.c := rfl
@[simp] theorem State.diag_d (s : State) (k : DiagKind) (x : Word) : (s.diag k x).d = s.d := rfl
@[simp] theorem State.diag_e (s : State) (k : DiagKind) (x : Word) : (s.diag k x).e = s.e := rfl
@[simp] theorem State.diag_h (s : State) (k : DiagKind) (x : Word) : (s.diag k x).h = s.h := rfl
@[simp] theorem State.diag_l (s : State) (k : DiagKind) (x : Word) : (s.diag k x).l = s.l := rfl
@[simp] theorem State.diag_sp (s : State) (k : DiagKind) (x : Word) : (s.diag k x).sp = s.sp := rfl
@[simp] theorem State.diag_pc (s : State) (k : DiagKind) (x : Word) : (s.diag k x).pc = s.pc := rfl
@[simp] theorem State.diag_ime (s : State) (k : DiagKind) (x : Word) : (s.diag k x).ime = s.ime := rfl
@[simp] theorem State.diag_halted (s : State) (k : DiagKind) (x : Word) : (s.diag k x).halted = s.halted := rfl
@[simp] theorem State.diag_ifReg (s : State) (k : DiagKind) (x : Word) : (s.diag k x).ifReg = s.ifReg := rfl
@[simp] theorem State.diag_ieReg (s : State) (k : DiagKind) (x : Word) : (s.diag k x).ieReg = s.ieReg := rfl
@[simp] theorem State.diag_vram (s : State) (k : DiagKind) (x : Word) : (s.diag k x).vram = s.vram := rfl
@[simp] theorem State.diag_eram (s : State) (k : DiagKind) (x : Word) : (s.diag k x).eram = s.eram := rfl
@[simp] theorem State.diag_wram (s : State) (k : DiagKind) (x : Word) : (s.diag k x).wram = s.wram := rfl
@[simp] theorem State.diag_oam (s : State) (k : DiagKind) (x : Word) : (s.diag k x).oam = s.oam := rfl
@[simp] theorem State.diag_hram (s : State) (k : DiagKind) (x : Word) : (s.diag k x).hram = s.hram := rfl
@[simp] theorem State.diag_bootActive (s : State) (k : DiagKind) (x : Word) : (s.diag k x).bootActive = s.bootActive := rfl
@[simp] theorem State.diag_rom1Sel (s : State) (k : DiagKind) (x : Word) : (s.diag k x).rom1Sel = s.rom1Sel := rfl
@[simp] theorem State.diag_eramSel (s : State) (k : DiagKind) (x : Word) : (s.diag k x).eramSel = s.eramSel := rfl
@[simp] theorem State.diag_vramSel (s : State) (k : DiagKind) (x : Word) : (s.diag k x).vramSel = s.vramSel := rfl
@[simp] theorem State.diag_wramSel (s : State) (k : DiagKind) (x : Word) : (s.diag k x).wramSel = s.wramSel := rfl
@[simp] theorem State.diag_mbc (s : State) (k : DiagKind) (x : Word) : (s.diag k x).mbc = s.mbc := rfl
@[simp] theorem State.diag_faultLatch (s : State) (k : DiagKind) (x : Word) : (s.diag k x).faultLatch = s.faultLatch := rfl
@[simp] theorem State.diag_par (s : State) (k : DiagKind) (x : Word) : (s.diag k x).par = s.par := rfl
@[simp] theorem State.diag_irqIn (s : State) (k : DiagKind) (x : Word) : (s.diag k x).irqIn = s.irqIn := rfl
@[simp] theorem State.diag_periphIn (s : State) (k : DiagKind) (x : Word) : (s.diag k x).periphIn = s.periphIn := rfl
@[simp] theorem State.diag_periphCount (s : State) (k : DiagKind) (x : Word) : (s.diag k x).periphCount = s.periphCount := rfl
@[simp] theorem State.diag_cycles (s : State) (k : DiagKind) (x : Word) : (s.diag k x).cycles = s.cycles := rfl

/-! ### A used answer -/

@[simp] theorem State.dropAnswer_a (s : State) : (s.dropAnswer).a = s.a := by unfold State.dropAnswer; split <;> rfl
@[simp] theorem State.dropAnswer_f (s : State) : (s.dropAnswer).f = s.f := by unfold State.dropAnswer; split <;> rfl
@[simp] theorem State.dropAnswer_b (s : State) : (s.dropAnswer).b = s.b := by unfold State.dropAnswer; split <;> rfl
@[simp] theorem State.dropAnswer_c (s : State) : (s.dropAnswer).c = s.c := by unfold State.dropAnswer; split <;> rfl
@[simp] theorem State.dropAnswer_d (s : State) : (s.dropAnswer).d = s.d := by unfold State.dropAnswer; split <;> rfl
@[simp] theorem State.dropAnswer_e (s : State) : (s.dropAnswer).e = s.e := by unfold State.dropAnswer; split <;> rfl
@[simp] theorem State.dropAnswer_h (s : State) : (s.dropAnswer).h = s.h := by unfold State.dropAnswer; split <;> rfl
@[simp] theorem State.dropAnswer_l (s : State) : (s.dropAnswer).l = s.l := by unfold State.dropAnswer; split <;> rfl
@[simp] theorem State.dropAnswer_sp (s : State) : (s.dropAnswer).sp = s.sp := by unfold State.dropAnswer; split <;> rfl
@[simp] theorem State.dropAnswer_pc (s : State) : (s.dropAnswer).pc = s.pc := by unfold State.dropAnswer; split <;> rfl
@[simp] theorem State.dropAnswer_ime (s : State) : (s.dropAnswer).ime = s.ime := by unfold State.dropAnswer; split <;> rfl
@[simp] theorem State.dropAnswer_halted (s : State) : (s.dropAnswer).halted = s.halted := by unfold State.dropAnswer; split <;> rfl
@[simp] theorem State.dropAnswer_ifReg (s : State) : (s.dropAnswer).ifReg = s.ifReg := by unfold State.dropAnswer; split <;> rfl
@[simp] theorem State.dropAnswer_ieReg (s : State) : (s.dropAnswer).ieReg = s.ieReg := by unfold State.dropAnswer; split <;> rfl
@[simp] theorem State.dropAnswer_vram (s : State) : (s.dropAnswer).vram = s.vram := by unfold State.dropAnswer; split <;> rfl
@[simp] theorem State.dropAnswer_eram (s : State) : (s.dropAnswer).eram = s.eram := by unfold State.dropAnswer; split <;> rfl
@[simp] theorem State.dropAnswer_wram (s : State) : (s.dropAnswer).wram = s.wram := by unfold State.dropAnswer; split <;> rfl
@[simp] theorem State.dropAnswer_oam (s : State) : (s.dropAnswer).oam = s.oam := by unfold State.dropAnswer; split <;> rfl
@[simp] theorem State.dropAnswer_hram (s : State) : (s.dropAnswer).hram = s.hram := by unfold State.dropAnswer; split <;> rfl
@[simp] theorem State.dropAnswer_bootActive (s : State) : (s.dropAnswer).bootActive = s.bootActive := by unfold State.dropAnswer; split <;> rfl
@[simp] theorem State.dropAnswer_rom1Sel (s : State) : (s.dropAnswer).rom1Sel = s.rom1Sel := by unfold State.dropAnswer; split <;> rfl
@[simp] theorem State.dropAnswer_eramSel (s : State) : (s.dropAnswer).eramSel = s.eramSel := by unfold State.dropAnswer; split <;> rfl
@[simp] theorem State.dropAnswer_vramSel (s : State) : (s.dropAnswer).vramSel = s.vramSel := by unfold State.dropAnswer; split <;> rfl
@[simp] theorem State.dropAnswer_wramSel (s : State) : (s.dropAnswer).wramSel = s.wramSel := by unfold State.dropAnswer; split <;> rfl
@[simp] theorem State.dropAnswer_mbc (s : State) : (s.dropAnswer).mbc = s.mbc := by unfold State.dropAnswer; split <;> rfl
@[simp] theorem State.dropAnswer_faultLatch (s : State) : (s.dropAnswer).faultLatch = s.faultLatch := by unfold State.dropAnswer; split <;> rfl
@[simp] theorem State.dropAnswer_par (s : State) : (s.dropAnswer).par = s.par := by unfold State.dropAnswer; split <;> rfl
@[simp] theorem State.dropAnswer_irqIn (s : State) : (s.dropAnswer).irqIn = s.irqIn := by unfold State.dropAnswer; split <;> rfl
@[simp] theorem State.dropAnswer_events (s : State) : (s.dropAnswer).events = s.events := by unfold State.dropAnswer; split <;> rfl
@[simp] theorem State.dropAnswer_cycles (s : State) : (s.dropAnswer).cycles = s.cycles := by unfold State.dropAnswer; split <;> rfl

/-! ### A byte read -/

@[simp] theorem State.afterRead_a (s : State) (x : Word) : (s.afterRead x).a = s.a := by unfold State.afterRead; split <;> (try split) <;> simp
@[simp] theorem State.afterRead_f (s : State) (x : Word) : (s.afterRead x).f = s.f := by unfold State.afterRead; split <;> (try split) <;> simp
@[simp] theorem State.afterRead_b (s : State) (x : Word) : (s.afterRead x).b = s.b := by unfold State.afterRead; split <;> (try split) <;> simp
@[simp] theorem State.afterRead_c (s : State) (x : Word) : (s.afterRead x).c = s.c := by unfold State.afterRead; split <;> (try split) <;> simp
@[simp] theorem State.afterRead_d (s : State) (x : Word) : (s.afterRead x).d = s.d := by unfold State.afterRead; split <;> (try split) <;> simp
@[simp] theorem State.afterRead_e (s : State) (x : Word) : (s.afterRead x).e = s.e := by unfold State.afterRead; split <;> (try split) <;> simp
@[simp] theorem State.afterRead_h (s : State) (x : Word) : (s.afterRead x).h = s.h := by unfold State.afterRead; split <;> (try split) <;> simp
@[simp] theorem State.afterRead_l (s : State) (x : Word) : (s.afterRead x).l = s.l := by unfold State.afterRead; split <;> (try split) <;> simp
@[simp] theorem State.afterRead_sp (s : State) (x : Word) : (s.afterRead x).sp = s.sp := by unfold State.afterRead; split <;> (try split) <;> simp
@[simp] theorem State.afterRead_pc (s : State) (x : Word) : (s.afterRead x).pc = s.pc := by unfold State.afterRead; split <;> (try split) <;> simp
@[simp] theorem State.afterRead_ime (s : State) (x : Word) : (s.afterRead x).ime = s.ime := by unfold State.afterRead; split <;> (try split) <;> simp
@[simp] theorem State.afterRead_halted (s : State) (x : Word) : (s.afterRead x).halted = s.halted := by unfold State.afterRead; split <;> (try split) <;> simp
@[simp] theorem State.afterRead_ifReg (s : State) (x : Word) : (s.afterRead x).ifReg = s.ifReg := by unfold State.afterRead; split <;> (try split) <;> simp
@[simp] theorem State.afterRead_ieReg (s : State) (x : Word) : (s.afterRead x).ieReg = s.ieReg := by unfold State.afterRead; split <;> (try split) <;> simp
@[simp] theorem State.afterRead_vram (s : State) (x : Word) : (s.afterRead x).vram = s.vram := by unfold State.afterRead; split <;> (try split) <;> simp
@[simp] theorem State.afterRead_eram (s : State) (x : Word) : (s.afterRead x).eram = s.eram := by unfold State.afterRead; split <;> (try split) <;> simp
@[simp] theorem State.afterRead_wram (s : State) (x : Word) : (s.afterRead x).wram = s.wram := by unfold State.afterRead; split <;> (try split) <;> simp
@[simp] theorem State.afterRead_oam (s : State) (x : Word) : (s.afterRead x).oam = s.oam := by unfold State.afterRead; split <;> (try split) <;> simp
@[simp] theorem State.afterRead_hram (s : State) (x : Word) : (s.afterRead x).hram = s.hram := by unfold State.afterRead; split <;> (try split) <;> simp
@[simp] theorem State.afterRead_bootActive (s : State) (x : Word) : (s.afterRead x).bootActive = s.bootActive := by unfold State.afterRead; split <;> (try split) <;> simp
@[simp] theorem State.afterRead_rom1Sel (s : State) (x : Word) : (s.afterRead x).rom1Sel = s.rom1Sel := by unfold State.afterRead; split <;> (try split) <;> simp
@[simp] theorem State.afterRead_eramSel (s : State) (x : Word) : (s.afterRead x).eramSel = s.eramSel := by unfold State.afterRead; split <;> (try split) <;> simp
@[simp] theorem State.afterRead_vramSel (s : State) (x : Word) : (s.afterRead x).vramSel = s.vramSel := by unfold State.afterRead; split <;> (try split) <;> simp
@[simp] theorem State.afterRead_wramSel (s : State) (x : Word) : (s.afterRead x).wramSel = s.wramSel := by unfold State.afterRead; split <;> (try split) <;> simp
@[simp] theorem State.afterRead_mbc (s : State) (x : Word) : (s.afterRead x).mbc = s.mbc := by unfold State.afterRead; split <;> (try split) <;> simp
@[simp] theorem State.afterRead_faultLatch (s : State) (x : Word) : (s.afterRead x).faultLatch = s.faultLatch := by unfold State.afterRead; split <;> (try split) <;> simp
@[simp] theorem State.afterRead_par (s : State) (x : Word) : (s.afterRead x).par = s.par := by unfold State.afterRead; split <;> (try split) <;> simp
@[simp] theorem State.afterRead_irqIn (s : State) (x : Word) : (s.afterRead x).irqIn = s.irqIn := by unfold State.afterRead; split <;> (try split) <;> simp
@[simp] theorem State.afterRead_cycles (s : State) (x : Word) : (s.afterRead x).cycles = s.cycles := by unfold State.afterRead; split <;> (try split) <;> simp

/-! ### A word read -/

@[simp] theorem State.afterReadWord_a (s : State) (x : Word) : (s.afterReadWord x).a = s.a := by simp [State.afterReadWord]
@[simp] theorem State.afterReadWord_f (s : State) (x : Word) : (s.afterReadWord x).f = s.f := by simp [State.afterReadWord]
@[simp] theorem State.afterReadWord_b (s : State) (x : Word) : (s.afterReadWord x).b = s.b := by simp [State.afterReadWord]
@[simp] theorem State.afterReadWord_c (s : State) (x : Word) : (s.afterReadWord x).c = s.c := by simp [State.afterReadWord]
@[simp] theorem State.afterReadWord_d (s : State) (x : Word) : (s.afterReadWord x).d = s.d := by simp [State.afterReadWord]
@[simp] theorem State.afterReadWord_e (s : State) (x : Word) : (s.afterReadWord x).e = s.e := by simp [State.afterReadWord]
@[simp] theorem State.afterReadWord_h (s : State) (x : Word) : (s.afterReadWord x).h = s.h := by simp [State.afterReadWord]
@[simp] theorem State.afterReadWord_l (s : State) (x : Word) : (s.afterReadWord x).l = s.l := by simp [State.afterReadWord]
@[simp] theorem State.afterReadWord_sp (s : State) (x : Word) : (s.afterReadWord x).sp = s.sp := by simp [State.afterReadWord]
@[simp] theorem State.afterReadWord_pc (s : State) (x : Word) : (s.afterReadWord x).pc = s.pc := by simp [State.afterReadWord]
@[simp] theorem State.afterReadWord_ime (s : State) (x : Word) : (s.afterReadWord x).ime = s.ime := by simp [State.afterReadWord]
@[simp] theorem State.afterReadWord_halted (s : State) (x : Word) : (s.afterReadWord x).halted = s.halted := by simp [State.afterReadWord]
@[simp] theorem State.afterReadWord_ifReg (s : State) (x : Word) : (s.afterReadWord x).ifReg = s.ifReg := by simp [State.afterReadWord]
@[simp] theorem State.afterReadWord_ieReg (s : State) (x : Word) : (s.afterReadWord x).ieReg = s.ieReg := by simp [State.afterReadWord]
@[simp] theorem State.afterReadWord_vram (s : State) (x : Word) : (s.afterReadWord x).vram = s.vram := by simp [State.afterReadWord]
@[simp] theorem State.afterReadWord_eram (s : State) (x : Word) : (s.afterReadWord x).eram = s.eram := by simp [State.afterReadWord]
@[simp] theorem State.afterReadWord_wram (s : State) (x : Word) : (s.afterReadWord x).wram = s.wram := by simp [State.afterReadWord]
@[simp] theorem State.afterReadWord_oam (s : State) (x : Word) : (s.afterReadWord x).oam = s.oam := by simp [State.afterReadWord]
@[simp] theorem State.afterReadWord_hram (s : State) (x : Word) : (s.afterReadWord x).hram = s.hram := by simp [State.afterReadWord]
@[simp] theorem State.afterReadWord_bootActive (s : State) (x : Word) : (s.afterReadWord x).bootActive = s.bootActive := by simp [State.afterReadWord]
@[simp] theorem State.afterReadWord_rom1Sel (s : State) (x : Word) : (s.afterReadWord x).rom1Sel = s.rom1Sel := by simp [State.afterReadWord]
@[simp] theorem State.afterReadWord_eramSel (s : State) (x : Word) : (s.afterReadWord x).eramSel = s.eramSel := by simp [State.afterReadWord]
@[simp] theorem State.afterReadWord_vramSel (s : State) (x : Word) : (s.afterReadWord x).vramSel = s.vramSel := by simp [State.afterReadWord]
@[simp] theorem State.afterReadWord_wramSel (s : State) (x : Word) : (s.afterReadWord x).wramSel = s.wramSel := by simp [State.afterReadWord]
@[simp] theorem State.afterReadWord_mbc (s : State) (x : Word) : (s.afterReadWord x).mbc = s.mbc := by simp [State.afterReadWord]
@[simp] theorem State.afterReadWord_faultLatch (s : State) (x : Word) : (s.afterReadWord x).faultLatch = s.faultLatch := by simp [State.afterReadWord]
@[simp] theorem State.afterReadWord_par (s : State) (x : Word) : (s.afterReadWord x).par = s.par := by simp [State.afterReadWord]
@[simp] theorem State.afterReadWord_irqIn (s : State) (x : Word) : (s.afterReadWord x).irqIn = s.irqIn := by simp [State.afterReadWord]
@[simp] theorem State.afterReadWord_cycles (s : State) (x : Word) : (s.afterReadWord x).cycles = s.cycles := by simp [State.afterReadWord]

/-! ### A pop -/

@[simp] theorem State.afterPop_a (s : State) : (s.afterPop).a = s.a := by simp [State.afterPop]
@[simp] theorem State.afterPop_f (s : State) : (s.afterPop).f = s.f := by simp [State.afterPop]
@[simp] theorem State.afterPop_b (s : State) : (s.afterPop).b = s.b := by simp [State.afterPop]
@[simp] theorem State.afterPop_c (s : State) : (s.afterPop).c = s.c := by simp [State.afterPop]
@[simp] theorem State.afterPop_d (s : State) : (s.afterPop).d = s.d := by simp [State.afterPop]
@[simp] theorem State.afterPop_e (s : State) : (s.afterPop).e = s.e := by simp [State.afterPop]
@[simp] theorem State.afterPop_h (s : State) : (s.afterPop).h = s.h := by simp [State.afterPop]
@[simp] theorem State.afterPop_l (s : State) : (s.afterPop).l = s.l := by simp [State.afterPop]
@[simp] theorem State.afterPop_pc (s : State) : (s.afterPop).pc = s.pc := by simp [State.afterPop]
@[simp] theorem State.afterPop_ime (s : State) : (s.afterPop).ime = s.ime := by simp [State.afterPop]
@[simp] theorem State.afterPop_halted (s : State) : (s.afterPop).halted = s.halted := by simp [State.afterPop]
@[simp] theorem State.afterPop_ifReg (s : State) : (s.afterPop).ifReg = s.ifReg := by simp [State.afterPop]
@[simp] theorem State.afterPop_ieReg (s : State) : (s.afterPop).ieReg = s.ieReg := by simp [State.afterPop]
@[simp] theorem State.afterPop_vram (s : State) : (s.afterPop).vram = s.vram := by simp [State.afterPop]
@[simp] theorem State.afterPop_eram (s : State) : (s.afterPop).eram = s.eram := by simp [State.afterPop]
@[simp] theorem State.afterPop_wram (s : State) : (s.afterPop).wram = s.wram := by simp [State.afterPop]
@[simp] theorem State.afterPop_oam (s : State) : (s.afterPop).oam = s.oam := by simp [State.afterPop]
@[simp] theorem State.afterPop_hram (s : State) : (s.afterPop).hram = s.hram := by simp [State.afterPop]
@[simp] theorem State.afterPop_bootActive (s : State) : (s.afterPop).bootActive = s.bootActive := by simp [State.afterPop]
@[simp] theorem State.afterPop_rom1Sel (s : State) : (s.afterPop).rom1Sel = s.rom1Sel := by simp [State.afterPop]
@[simp] theorem State.afterPop_eramSel (s : State) : (s.afterPop).eramSel = s.eramSel := by simp [State.afterPop]
@[simp] theorem State.afterPop_vramSel (s : State) : (s.afterPop).vramSel = s.vramSel := by simp [State.afterPop]
@[simp] theorem State.afterPop_wramSel (s : State) : (s.afterPop).wramSel = s.wramSel := by simp [State.afterPop]
@[simp] theorem State.afterPop_mbc (s : State) : (s.afterPop).mbc = s.mbc := by simp [State.afterPop]
@[simp] theorem State.afterPop_faultLatch (s : State) : (s.afterPop).faultLatch = s.faultLatch := by simp [State.afterPop]
@[simp] theorem State.afterPop_par (s : State) : (s.afterPop).par = s.par := by simp [State.afterPop]
@[simp] theorem State.afterPop_irqIn (s : State) : (s.afterPop).irqIn = s.irqIn := by simp [State.afterPop]
@[simp] theorem State.afterPop_cycles (s : State) : (s.afterPop).cycles = s.cycles := by simp [State.afterPop]

/-! ### A cell store -/

@[simp] theorem State.setCell_a (s : State) (x : Store × Nat) (v : Byte) : (s.setCell x v).a = s.a := by rcases x with ⟨k, n⟩; cases k <;> rfl
@[simp] theorem State.setCell_f (s : State) (x : Store × Nat) (v : Byte) : (s.setCell x v).f = s.f := by rcases x with ⟨k, n⟩; cases k <;> rfl
@[simp] theorem State.setCell_b (s : State) (x : Store × Nat) (v : Byte) : (s.setCell x v).b = s.b := by rcases x with ⟨k, n⟩; cases k <;> rfl
@[simp] theorem State.setCell_c (s : State) (x : Store × Nat) (v : Byte) : (s.setCell x v).c = s.c := by rcases x with ⟨k, n⟩; cases k <;> rfl
@[simp] theorem State.setCell_d (s : State) (x : Store × Nat) (v : Byte) : (s.setCell x v).d = s.d := by rcases x with ⟨k, n⟩; cases k <;> rfl
@[simp] theorem State.setCell_e (s : State) (x : Store × Nat) (v : Byte) : (s.setCell x v).e = s.e := by rcases x with ⟨k, n⟩; cases k <;> rfl
@[simp] theorem State.setCell_h (s : State) (x : Store × Nat) (v : Byte) : (s.setCell x v).h = s.h := by rcases x with ⟨k, n⟩; cases k <;> rfl
@[simp] theorem State.setCell_l (s : State) (x : Store × Nat) (v : Byte) : (s.setCell x v).l = s.l := by rcases x with ⟨k, n⟩; cases k <;> rfl
@[simp] theorem State.setCell_sp (s : State) (x : Store × Nat) (v : Byte) : (s.setCell x v).sp = s.sp := by rcases x with ⟨k, n⟩; cases k <;> rfl
@[simp] theorem State.setCell_pc (s : State) (x : Store × Nat) (v : Byte) : (s.setCell x v).pc = s.pc := by rcases x with ⟨k, n⟩; cases k <;> rfl
@[simp] theorem State.setCell_ime (s : State) (x : Store × Nat) (v : Byte) : (s.setCell x v).ime = s.ime := by rcases x with ⟨k, n⟩; cases k <;> rfl
@[simp] theorem State.setCell_halted (s : State) (x : Store × Nat) (v : Byte) : (s.setCell x v).halted = s.halted := by rcases x with ⟨k, n⟩; cases k <;> rfl
@[simp] theorem State.setCell_ifReg (s : State) (x : Store × Nat) (v : Byte) : (s.setCell x v).ifReg = s.ifReg := by rcases x with ⟨k, n⟩; cases k <;> rfl
@[simp] theorem State.setCell_ieReg (s : State) (x : Store × Nat) (v : Byte) : (s.setCell x v).ieReg = s.ieReg := by rcases x with ⟨k, n⟩; cases k <;> rfl
@[simp] theorem State.setCell_bootActive (s : State) (x : Store × Nat) (v : Byte) : (s.setCell x v).bootActive = s.bootActive := by rcases x with ⟨k, n⟩; cases k <;> rfl
@[simp] theorem State.setCell_rom1Sel (s : State) (x : Store × Nat) (v : Byte) : (s.setCell x v).rom1Sel = s.rom1Sel := by rcases x with ⟨k, n⟩; cases k <;> rfl
@[simp] theorem State.setCell_eramSel (s : State) (x : Store × Nat) (v : Byte) : (s.setCell x v).eramSel = s.eramSel := by rcases x with ⟨k, n⟩; cases k <;> rfl
@[simp] theorem State.setCell_vramSel (s : State) (x : Store × Nat) (v : Byte) : (s.setCell x v).vramSel = s.vramSel := by rcases x with ⟨k, n⟩; cases k <;> rfl
@[simp] theorem State.setCell_wramSel (s : State) (x : Store × Nat) (v : Byte) : (s.setCell x v).wramSel = s.wramSel := by rcases x with ⟨k, n⟩; cases k <;> rfl
@[simp] theorem State.setCell_mbc (s : State) (x : Store × Nat) (v : Byte) : (s.setCell x v).mbc = s.mbc := by rcases x with ⟨k, n⟩; cases k <;> rfl
@[simp] theorem State.setCell_faultLatch (s : State) (x : Store × Nat) (v : Byte) : (s.setCell x v).faultLatch = s.faultLatch := by rcases x with ⟨k, n⟩; cases k <;> rfl
@[simp] theorem State.setCell_par (s : State) (x : Store × Nat) (v : Byte) : (s.setCell x v).par = s.par := by rcases x with ⟨k, n⟩; cases k <;> rfl
@[simp] theorem State.setCell_irqIn (s : State) (x : Store × Nat) (v : Byte) : (s.setCell x v).irqIn = s.irqIn := by rcases x with ⟨k, n⟩; cases k <;> rfl
@[simp] theorem State.setCell_periphIn (s : State) (x : Store × Nat) (v : Byte) : (s.setCell x v).periphIn = s.periphIn := by rcases x with ⟨k, n⟩; cases k <;> rfl
@[simp] theorem State.setCell_periphCount (s : State) (x : Store × Nat) (v : Byte) : (s.setCell x v).periphCount = s.periphCount := by rcases x with ⟨k, n⟩; cases k <;> rfl
@[simp] theorem State.setCell_events (s : State) (x : Store × Nat) (v : Byte) : (s.setCell x v).events = s.events := by rcases x with ⟨k, n⟩; cases k <;> rfl
@[simp] theorem State.setCell_cycles (s : State) (x : Store × Nat) (v : Byte) : (s.setCell x v).cycles = s.cycles := by rcases x with ⟨k, n⟩; cases k <;> rfl

/-! ### A store at an address -/

@[simp] theorem State.storeAt_a (s : State) (x : Word) (v : Byte) : (s.storeAt x v).a = s.a := by unfold State.storeAt; split <;> simp
@[simp] theorem State.storeAt_f (s : State) (x : Word) (v : Byte) : (s.storeAt x v).f = s.f := by unfold State.storeAt; split <;> simp
@[simp] theorem State.storeAt_b (s : State) (x : Word) (v : Byte) : (s.storeAt x v).b = s.b := by unfold State.storeAt; split <;> simp
@[simp] theorem State.storeAt_c (s : State) (x : Word) (v : Byte) : (s.storeAt x v).c = s.c := by unfold State.storeAt; split <;> simp
@[simp] theorem State.storeAt_d (s : State) (x : Word) (v : Byte) : (s.storeAt x v).d = s.d := by unfold State.storeAt; split <;> simp
@[simp] theorem State.storeAt_e (s : State) (x : Word) (v : Byte) : (s.storeAt x v).e = s.e := by unfold State.storeAt; split <;> simp
@[simp] theorem State.storeAt_h (s : State) (x : Word) (v : Byte) : (s.storeAt x v).h = s.h := by unfold State.storeAt; split <;> simp
@[simp] theorem State.storeAt_l (s : State) (x : Word) (v : Byte) : (s.storeAt x v).l = s.l := by unfold State.storeAt; split <;> simp
@[simp] theorem State.storeAt_sp (s : State) (x : Word) (v : Byte) : (s.storeAt x v).sp = s.sp := by unfold State.storeAt; split <;> simp
@[simp] theorem State.storeAt_pc (s : State) (x : Word) (v : Byte) : (s.storeAt x v).pc = s.pc := by unfold State.storeAt; split <;> simp
@[simp] theorem State.storeAt_ime (s : State) (x : Word) (v : Byte) : (s.storeAt x v).ime = s.ime := by unfold State.storeAt; split <;> simp
@[simp] theorem State.storeAt_halted (s : State) (x : Word) (v : Byte) : (s.storeAt x v).halted = s.halted := by unfold State.storeAt; split <;> simp
@[simp] theorem State.storeAt_ifReg (s : State) (x : Word) (v : Byte) : (s.storeAt x v).ifReg = s.ifReg := by unfold State.storeAt; split <;> simp
@[simp] theorem State.storeAt_ieReg (s : State) (x : Word) (v : Byte) : (s.storeAt x v).ieReg = s.ieReg := by unfold State.storeAt; split <;> simp
@[simp] theorem State.storeAt_bootActive (s : State) (x : Word) (v : Byte) : (s.storeAt x v).bootActive = s.bootActive := by unfold State.storeAt; split <;> simp
@[simp] theorem State.storeAt_rom1Sel (s : State) (x : Word) (v : Byte) : (s.storeAt x v).rom1Sel = s.rom1Sel := by unfold State.storeAt; split <;> simp
@[simp] theorem State.storeAt_eramSel (s : State) (x : Word) (v : Byte) : (s.storeAt x v).eramSel = s.eramSel := by unfold State.storeAt; split <;> simp
@[simp] theorem State.storeAt_vramSel (s : State) (x : Word) (v : Byte) : (s.storeAt x v).vramSel = s.vramSel := by unfold State.storeAt; split <;> simp
@[simp] theorem State.storeAt_wramSel (s : State) (x : Word) (v : Byte) : (s.storeAt x v).wramSel = s.wramSel := by unfold State.storeAt; split <;> simp
@[simp] theorem State.storeAt_mbc (s : State) (x : Word) (v : Byte) : (s.storeAt x v).mbc = s.mbc := by unfold State.storeAt; split <;> simp
@[simp] theorem State.storeAt_faultLatch (s : State) (x : Word) (v : Byte) : (s.storeAt x v).faultLatch = s.faultLatch := by unfold State.storeAt; split <;> simp
@[simp] theorem State.storeAt_par (s : State) (x : Word) (v : Byte) : (s.storeAt x v).par = s.par := by unfold State.storeAt; split <;> simp
@[simp] theorem State.storeAt_irqIn (s : State) (x : Word) (v : Byte) : (s.storeAt x v).irqIn = s.irqIn := by unfold State.storeAt; split <;> simp
@[simp] theorem State.storeAt_periphIn (s : State) (x : Word) (v : Byte) : (s.storeAt x v).periphIn = s.periphIn := by unfold State.storeAt; split <;> simp
@[simp] theorem State.storeAt_periphCount (s : State) (x : Word) (v : Byte) : (s.storeAt x v).periphCount = s.periphCount := by unfold State.storeAt; split <;> simp
@[simp] theorem State.storeAt_events (s : State) (x : Word) (v : Byte) : (s.storeAt x v).events = s.events := by unfold State.storeAt; split <;> simp
@[simp] theorem State.storeAt_cycles (s : State) (x : Word) (v : Byte) : (s.storeAt x v).cycles = s.cycles := by unfold State.storeAt; split <;> simp

/-! ### The save request -/

@[simp] theorem State.saveOnDisable_a (s : State) (x : Bool) (y : Bool) : (s.saveOnDisable x y).a = s.a := by unfold State.saveOnDisable; split <;> simp
@[simp] theorem State.saveOnDisable_f (s : State) (x : Bool) (y : Bool) : (s.saveOnDisable x y).f = s.f := by unfold State.saveOnDisable; split <;> simp
@[simp] theorem State.saveOnDisable_b (s : State) (x : Bool) (y : Bool) : (s.saveOnDisable x y).b = s.b := by unfold State.saveOnDisable; split <;> simp
@[simp] theorem State.saveOnDisable_c (s : State) (x : Bool) (y : Bool) : (s.saveOnDisable x y).c = s.c := by unfold State.saveOnDisable; split <;> simp
@[simp] theorem State.saveOnDisable_d (s : State) (x : Bool) (y : Bool) : (s.saveOnDisable x y).d = s.d := by unfold State.saveOnDisable; split <;> simp
@[simp] theorem State.saveOnDisable_e (s : State) (x : Bool) (y : Bool) : (s.saveOnDisable x y).e = s.e := by unfold State.saveOnDisable; split <;> simp
@[simp] theorem State.saveOnDisable_h (s : State) (x : Bool) (y : Bool) : (s.saveOnDisable x y).h = s.h := by unfold State.saveOnDisable; split <;> simp
@[simp] theorem State.saveOnDisable_l (s : State) (x : Bool) (y : Bool) : (s.saveOnDisable x y).l = s.l := by unfold State.saveOnDisable; split <;> simp
@[simp] theorem State.saveOnDisable_sp (s : State) (x : Bool) (y : Bool) : (s.saveOnDisable x y).sp = s.sp := by unfold State.saveOnDisable; split <;> simp
@[simp] theorem State.saveOnDisable_pc (s : State) (x : Bool) (y : Bool) : (s.saveOnDisable x y).pc = s.pc := by unfold State.saveOnDisable; split <;> simp
@[simp] theorem State.saveOnDisable_ime (s : State) (x : Bool) (y : Bool) : (s.saveOnDisable x y).ime = s.ime := by unfold State.saveOnDisable; split <;> simp
@[simp] theorem State.saveOnDisable_halted (s : State) (x : Bool) (y : Bool) : (s.saveOnDisable x y).halted = s.halted := by unfold State.saveOnDisable; split <;> simp
@[simp] theorem State.saveOnDisable_ifReg (s : State) (x : Bool) (y : Bool) : (s.saveOnDisable x y).ifReg = s.ifReg := by unfold State.saveOnDisable; split <;> simp
@[simp] theorem State.saveOnDisable_ieReg (s : State) (x : Bool) (y : Bool) : (s.saveOnDisable x y).ieReg = s.ieReg := by unfold State.saveOnDisable; split <;> simp
@[simp] theorem State.saveOnDisable_vram (s : State) (x : Bool) (y : Bool) : (s.saveOnDisable x y).vram = s.vram := by unfold State.saveOnDisable; split <;> simp
@[simp] theorem State.saveOnDisable_eram (s : State) (x : Bool) (y : Bool) : (s.saveOnDisable x y).eram = s.eram := by unfold State.saveOnDisable; split <;> simp
@[simp] theorem State.saveOnDisable_wram (s : State) (x : Bool) (y : Bool) : (s.saveOnDisable x y).wram = s.wram := by unfold State.saveOnDisable; split <;> simp
@[simp] theorem State.saveOnDisable_oam (s : State) (x : Bool) (y : Bool) : (s.saveOnDisable x y).oam = s.oam := by unfold State.saveOnDisable; split <;> simp
@[simp] theorem State.saveOnDisable_hram (s : State) (x : Bool) (y : Bool) : (s.saveOnDisable x y).hram = s.hram := by unfold State.saveOnDisable; split <;> simp
@[simp] theorem State.saveOnDisable_bootActive (s : State) (x : Bool) (y : Bool) : (s.saveOnDisable x y).bootActive = s.bootActive := by unfold State.saveOnDisable; split <;> simp
@[simp] theorem State.saveOnDisable_rom1Sel (s : State) (x : Bool) (y : Bool) : (s.saveOnDisable x y).rom1Sel = s.rom1Sel := by unfold State.saveOnDisable; split <;> simp
@[simp] theorem State.saveOnDisable_eramSel (s : State) (x : Bool) (y : Bool) : (s.saveOnDisable x y).eramSel = s.eramSel := by unfold State.saveOnDisable; split <;> simp
@[simp] theorem State.saveOnDisable_vramSel (s : State) (x : Bool) (y : Bool) : (s.saveOnDisable x y).vramSel = s.vramSel := by unfold State.saveOnDisable; split <;> simp
@[simp] theorem State.saveOnDisable_wramSel (s : State) (x : Bool) (y : Bool) : (s.saveOnDisable x y).wramSel = s.wramSel := by unfold State.saveOnDisable; split <;> simp
@[simp] theorem State.saveOnDisable_mbc (s : State) (x : Bool) (y : Bool) : (s.saveOnDisable x y).mbc = s.mbc := by unfold State.saveOnDisable; split <;> simp
@[simp] theorem State.saveOnDisable_faultLatch (s : State) (x : Bool) (y : Bool) : (s.saveOnDisable x y).faultLatch = s.faultLatch := by unfold State.saveOnDisable; split <;> simp
@[simp] theorem State.saveOnDisable_par (s : State) (x : Bool) (y : Bool) : (s.saveOnDisable x y).par = s.par := by unfold State.saveOnDisable; split <;> simp
@[simp] theorem State.saveOnDisable_irqIn (s : State) (x : Bool) (y : Bool) : (s.saveOnDisable x y).irqIn = s.irqIn := by unfold State.saveOnDisable; split <;> simp
@[simp] theorem State.saveOnDisable_periphIn (s : State) (x : Bool) (y : Bool) : (s.saveOnDisable x y).periphIn = s.periphIn := by unfold State.saveOnDisable; split <;> simp
@[simp] theorem State.saveOnDisable_periphCount (s : State) (x : Bool) (y : Bool) : (s.saveOnDisable x y).periphCount = s.periphCount := by unfold State.saveOnDisable; split <;> simp
@[simp] theorem State.saveOnDisable_cycles (s : State) (x : Bool) (y : Bool) : (s.saveOnDisable x y).cycles = s.cycles := by unfold State.saveOnDisable; split <;> simp

/-! ### An MBC1 remap -/

@[simp] theorem State.remap1_a (s : State) (r : Mbc1) : (s.remap1 r).a = s.a := by unfold State.remap1; split <;> rfl
@[simp] theorem State.remap1_f (s : State) (r : Mbc1) : (s.remap1 r).f = s.f := by unfold State.remap1; split <;> rfl
@[simp] theorem State.remap1_b (s : State) (r : Mbc1) : (s.remap1 r).b = s.b := by unfold State.remap1; split <;> rfl
@[simp] theorem State.remap1_c (s : State) (r : Mbc1) : (s.remap1 r).c = s.c := by unfold State.remap1; split <;> rfl
@[simp] theorem State.remap1_d (s : State) (r : Mbc1) : (s.remap1 r).d = s.d := by unfold State.remap1; split <;> rfl
@[simp] theorem State.remap1_e (s : State) (r : Mbc1) : (s.remap1 r).e = s.e := by unfold State.remap1; split <;> rfl
@[simp] theorem State.remap1_h (s : State) (r : Mbc1) : (s.remap1 r).h = s.h := by unfold State.remap1; split <;> rfl
@[simp] theorem State.remap1_l (s : State) (r : Mbc1) : (s.remap1 r).l = s.l := by unfold State.remap1; split <;> rfl
@[simp] theorem State.remap1_sp (s : State) (r : Mbc1) : (s.remap1 r).sp = s.sp := by unfold State.remap1; split <;> rfl
@[simp] theorem State.remap1_pc (s : State) (r : Mbc1) : (s.remap1 r).pc = s.pc := by unfold State.remap1; split <;> rfl
@[simp] theorem State.remap1_ime (s : State) (r : Mbc1) : (s.remap1 r).ime = s.ime := by unfold State.remap1; split <;> rfl
@[simp] theorem State.remap1_halted (s : State) (r : Mbc1) : (s.remap1 r).halted = s.halted := by unfold State.remap1; split <;> rfl
@[simp] theorem State.remap1_ifReg (s : State) (r : Mbc1) : (s.remap1 r).ifReg = s.ifReg := by unfold State.remap1; split <;> rfl
@[simp] theorem State.remap1_ieReg (s : State) (r : Mbc1) : (s.remap1 r).ieReg = s.ieReg := by unfold State.remap1; split <;> rfl
@[simp] theorem State.remap1_vram (s : State) (r : Mbc1) : (s.remap1 r).vram = s.vram := by unfold State.remap1; split <;> rfl
@[simp] theorem State.remap1_eram (s : State) (r : Mbc1) : (s.remap1 r).eram = s.eram := by unfold State.remap1; split <;> rfl
@[simp] theorem State.remap1_wram (s : State) (r : Mbc1) : (s.remap1 r).wram = s.wram := by unfold State.remap1; split <;> rfl
@[simp] theorem State.remap1_oam (s : State) (r : Mbc1) : (s.remap1 r).oam = s.oam := by unfold State.remap1; split <;> rfl
@[simp] theorem State.remap1_hram (s : State) (r : Mbc1) : (s.remap1 r).hram = s.hram := by unfold State.remap1; split <;> rfl
@[simp] theorem State.remap1_bootActive (s : State) (r : Mbc1) : (s.remap1 r).bootActive = s.bootActive := by unfold State.remap1; split <;> rfl
@[simp] theorem State.remap1_vramSel (s : State) (r : Mbc1) : (s.remap1 r).vramSel = s.vramSel := by unfold State.remap1; split <;> rfl
@[simp] theorem State.remap1_wramSel (s : State) (r : Mbc1) : (s.remap1 r).wramSel = s.wramSel := by unfold State.remap1; split <;> rfl
@[simp] theorem State.remap1_faultLatch (s : State) (r : Mbc1) : (s.remap1 r).faultLatch = s.faultLatch := by unfold State.remap1; split <;> rfl
@[simp] theorem State.remap1_par (s : State) (r : Mbc1) : (s.remap1 r).par = s.par := by unfold State.remap1; split <;> rfl
@[simp] theorem State.remap1_irqIn (s : State) (r : Mbc1) : (s.remap1 r).irqIn = s.irqIn := by unfold State.remap1; split <;> rfl
@[simp] theorem State.remap1_periphIn (s : State) (r : Mbc1) : (s.remap1 r).periphIn = s.periphIn := by unfold State.remap1; split <;> rfl
@[simp] theorem State.remap1_periphCount (s : State) (r : Mbc1) : (s.remap1 r).periphCount = s.periphCount := by unfold State.remap1; split <;> rfl
@[simp] theorem State.remap1_events (s : State) (r : Mbc1) : (s.remap1 r).events = s.events := by unfold State.remap1; split <;> rfl
@[simp] theorem State.remap1_cycles (s : State) (r : Mbc1) : (s.remap1 r).cycles = s.cycles := by unfold State.remap1; split <;> rfl

/-! ### An MBC5 remap -/

@[simp] theorem State.remap5_a (s : State) (r : Mbc5) : (s.remap5 r).a = s.a := rfl
@[simp] theorem State.remap5_f (s : State) (r : Mbc5) : (s.remap5 r).f = s.f := rfl
@[simp] theorem State.remap5_b (s : State) (r : Mbc5) : (s.remap5 r).b = s.b := rfl
@[simp] theorem State.remap5_c (s : State) (r : Mbc5) : (s.remap5 r).c = s.c := rfl
@[simp] theorem State.remap5_d (s : State) (r : Mbc5) : (s.remap5 r).d = s.d := rfl
@[simp] theorem State.remap5_e (s : State) (r : Mbc5) : (s.remap5 r).e = s.e := rfl
@[simp] theorem State.remap5_h (s : State) (r : Mbc5) : (s.remap5 r).h = s.h := rfl
@[simp] theorem State.remap5_l (s : State) (r : Mbc5) : (s.remap5 r).l = s.l := rfl
@[simp] theorem State.remap5_sp (s : State) (r : Mbc5) : (s.remap5 r).sp = s.sp := rfl
@[simp] theorem State.remap5_pc (s : State) (r : Mbc5) : (s.remap5 r).pc = s.pc := rfl
@[simp] theorem State.remap5_ime (s : State) (r : Mbc5) : (s.remap5 r).ime = s.ime := rfl
@[simp] theorem State.remap5_halted (s : State) (r : Mbc5) : (s.remap5 r).halted = s.halted := rfl
@[simp] theorem State.remap5_ifReg (s : State) (r : Mbc5) : (s.remap5 r).ifReg = s.ifReg := rfl
@[simp] theorem State.remap5_ieReg (s : State) (r : Mbc5) : (s.remap5 r).ieReg = s.ieReg := rfl
@[simp] theorem State.remap5_vram (s : State) (r : Mbc5) : (s.remap5 r).vram = s.vram := rfl
@[simp] theorem State.remap5_eram (s : State) (r : Mbc5) : (s.remap5 r).eram = s.eram := rfl
@[simp] theorem State.remap5_wram (s : State) (r : Mbc5) : (s.remap5 r).wram = s.wram := rfl
@[simp] theorem State.remap5_oam (s : State) (r : Mbc5) : (s.remap5 r).oam = s.oam := rfl
@[simp] theorem State.remap5_hram (s : State) (r : Mbc5) : (s.remap5 r).hram = s.hram := rfl
@[simp] theorem State.remap5_bootActive (s : State) (r : Mbc5) : (s.remap5 r).bootActive = s.bootActive := rfl
@[simp] theorem State.remap5_eramSel (s : State) (r : Mbc5) : (s.remap5 r).eramSel = s.eramSel := rfl
@[simp] theorem State.remap5_vramSel (s : State) (r : Mbc5) : (s.remap5 r).vramSel = s.vramSel := rfl
@[simp] theorem State.remap5_wramSel (s : State) (r : Mbc5) : (s.remap5 r).wramSel = s.wramSel := rfl
@[simp] theorem State.remap5_faultLatch (s : State) (r : Mbc5) : (s.remap5 r).faultLatch = s.faultLatch := rfl
@[simp] theorem State.remap5_par (s : State) (r : Mbc5) : (s.remap5 r).par = s.par := rfl
@[simp] theorem State.remap5_irqIn (s : State) (r : Mbc5) : (s.remap5 r).irqIn = s.irqIn := rfl
@[simp] theorem State.remap5_periphIn (s : State) (r : Mbc5) : (s.remap5 r).periphIn = s.periphIn := rfl
@[simp] theorem State.remap5_periphCount (s : State) (r : Mbc5) : (s.remap5 r).periphCount = s.periphCount := rfl
@[simp] theorem State.remap5_events (s : State) (r : Mbc5) : (s.remap5 r).events = s.events := rfl
@[simp] theorem State.remap5_cycles (s : State) (r : Mbc5) : (s.remap5 r).cycles = s.cycles := rfl

/-! ### An MBC1 write -/

@[simp] theorem State.write1_a (s : State) (r : Mbc1) (n : Nat) (v : Byte) : (s.write1 r n v).a = s.a := by unfold State.write1; (repeat' split) <;> simp
@[simp] theorem State.write1_f (s : State) (r : Mbc1) (n : Nat) (v : Byte) : (s.write1 r n v).f = s.f := by unfold State.write1; (repeat' split) <;> simp
@[simp] theorem State.write1_b (s : State) (r : Mbc1) (n : Nat) (v : Byte) : (s.write1 r n v).b = s.b := by unfold State.write1; (repeat' split) <;> simp
@[simp] theorem State.write1_c (s : State) (r : Mbc1) (n : Nat) (v : Byte) : (s.write1 r n v).c = s.c := by unfold State.write1; (repeat' split) <;> simp
@[simp] theorem State.write1_d (s : State) (r : Mbc1) (n : Nat) (v : Byte) : (s.write1 r n v).d = s.d := by unfold State.write1; (repeat' split) <;> simp
@[simp] theorem State.write1_e (s : State) (r : Mbc1) (n : Nat) (v : Byte) : (s.write1 r n v).e = s.e := by unfold State.write1; (repeat' split) <;> simp
@[simp] theorem State.write1_h (s : State) (r : Mbc1) (n : Nat) (v : Byte) : (s.write1 r n v).h = s.h := by unfold State.write1; (repeat' split) <;> simp
@[simp] theorem State.write1_l (s : State) (r : Mbc1) (n : Nat) (v : Byte) : (s.write1 r n v).l = s.l := by unfold State.write1; (repeat' split) <;> simp
@[simp] theorem State.write1_sp (s : State) (r : Mbc1) (n : Nat) (v : Byte) : (s.write1 r n v).sp = s.sp := by unfold State.write1; (repeat' split) <;> simp
@[simp] theorem State.write1_pc (s : State) (r : Mbc1) (n : Nat) (v : Byte) : (s.write1 r n v).pc = s.pc := by unfold State.write1; (repeat' split) <;> simp
@[simp] theorem State.write1_ime (s : State) (r : Mbc1) (n : Nat) (v : Byte) : (s.write1 r n v).ime = s.ime := by unfold State.write1; (repeat' split) <;> simp
@[simp] theorem State.write1_halted (s : State) (r : Mbc1) (n : Nat) (v : Byte) : (s.write1 r n v).halted = s.halted := by unfold State.write1; (repeat' split) <;> simp
@[simp] theorem State.write1_ifReg (s : State) (r : Mbc1) (n : Nat) (v : Byte) : (s.write1 r n v).ifReg = s.ifReg := by unfold State.write1; (repeat' split) <;> simp
@[simp] theorem State.write1_ieReg (s : State) (r : Mbc1) (n : Nat) (v : Byte) : (s.write1 r n v).ieReg = s.ieReg := by unfold State.write1; (repeat' split) <;> simp
@[simp] theorem State.write1_vram (s : State) (r : Mbc1) (n : Nat) (v : Byte) : (s.write1 r n v).vram = s.vram := by unfold State.write1; (repeat' split) <;> simp
@[simp] theorem State.write1_eram (s : State) (r : Mbc1) (n : Nat) (v : Byte) : (s.write1 r n v).eram = s.eram := by unfold State.write1; (repeat' split) <;> simp
@[simp] theorem State.write1_wram (s : State) (r : Mbc1) (n : Nat) (v : Byte) : (s.write1 r n v).wram = s.wram := by unfold State.write1; (repeat' split) <;> simp
@[simp] theorem State.write1_oam (s : State) (r : Mbc1) (n : Nat) (v : Byte) : (s.write1 r n v).oam = s.oam := by unfold State.write1; (repeat' split) <;> simp
@[simp] theorem State.write1_hram (s : State) (r : Mbc1) (n : Nat) (v : Byte) : (s.write1 r n v).hram = s.hram := by unfold State.write1; (repeat' split) <;> simp
@[simp] theorem State.write1_bootActive (s : State) (r : Mbc1) (n : Nat) (v : Byte) : (s.write1 r n v).bootActive = s.bootActive := by unfold State.write1; (repeat' split) <;> simp
@[simp] theorem State.write1_vramSel (s : State) (r : Mbc1) (n : Nat) (v : Byte) : (s.write1 r n v).vramSel = s.vramSel := by unfold State.write1; (repeat' split) <;> simp
@[simp] theorem State.write1_wramSel (s : State) (r : Mbc1) (n : Nat) (v : Byte) : (s.write1 r n v).wramSel = s.wramSel := by unfold State.write1; (repeat' split) <;> simp
@[simp] theorem State.write1_faultLatch (s : State) (r : Mbc1) (n : Nat) (v : Byte) : (s.write1 r n v).faultLatch = s.faultLatch := by unfold State.write1; (repeat' split) <;> simp
@[simp] theorem State.write1_par (s : State) (r : Mbc1) (n : Nat) (v : Byte) : (s.write1 r n v).par = s.par := by unfold State.write1; (repeat' split) <;> simp
@[simp] theorem State.write1_irqIn (s : State) (r : Mbc1) (n : Nat) (v : Byte) : (s.write1 r n v).irqIn = s.irqIn := by unfold State.write1; (repeat' split) <;> simp
@[simp] theorem State.write1_periphIn (s : State) (r : Mbc1) (n : Nat) (v : Byte) : (s.write1 r n v).periphIn = s.periphIn := by unfold State.write1; (repeat' split) <;> simp
@[simp] theorem State.write1_periphCount (s : State) (r : Mbc1) (n : Nat) (v : Byte) : (s.write1 r n v).periphCount = s.periphCount := by unfold State.write1; (repeat' split) <;> simp
@[simp] theorem State.write1_cycles (s : State) (r : Mbc1) (n : Nat) (v : Byte) : (s.write1 r n v).cycles = s.cycles := by unfold State.write1; (repeat' split) <;> simp

/-! ### An MBC3 write -/

@[simp] theorem State.write3_a (s : State) (r : Mbc3) (n : Nat) (v : Byte) : (s.write3 r n v).a = s.a := by unfold State.write3; (repeat' split) <;> simp
@[simp] theorem State.write3_f (s : State) (r : Mbc3) (n : Nat) (v : Byte) : (s.write3 r n v).f = s.f := by unfold State.write3; (repeat' split) <;> simp
@[simp] theorem State.write3_b (s : State) (r : Mbc3) (n : Nat) (v : Byte) : (s.write3 r n v).b = s.b := by unfold State.write3; (repeat' split) <;> simp
@[simp] theorem State.write3_c (s : State) (r : Mbc3) (n : Nat) (v : Byte) : (s.write3 r n v).c = s.c := by unfold State.write3; (repeat' split) <;> simp
@[simp] theorem State.write3_d (s : State) (r : Mbc3) (n : Nat) (v : Byte) : (s.write3 r n v).d = s.d := by unfold State.write3; (repeat' split) <;> simp
@[simp] theorem State.write3_e (s : State) (r : Mbc3) (n : Nat) (v : Byte) : (s.write3 r n v).e = s.e := by unfold State.write3; (repeat' split) <;> simp
@[simp] theorem State.write3_h (s : State) (r : Mbc3) (n : Nat) (v : Byte) : (s.write3 r n v).h = s.h := by unfold State.write3; (repeat' split) <;> simp
@[simp] theorem State.write3_l (s : State) (r : Mbc3) (n : Nat) (v : Byte) : (s.write3 r n v).l = s.l := by unfold State.write3; (repeat' split) <;> simp
@[simp] theorem State.write3_sp (s : State) (r : Mbc3) (n : Nat) (v : Byte) : (s.write3 r n v).sp = s.sp := by unfold State.write3; (repeat' split) <;> simp
@[simp] theorem State.write3_pc (s : State) (r : Mbc3) (n : Nat) (v : Byte) : (s.write3 r n v).pc = s.pc := by unfold State.write3; (repeat' split) <;> simp
@[simp] theorem State.write3_ime (s : State) (r : Mbc3) (n : Nat) (v : Byte) : (s.write3 r n v).ime = s.ime := by unfold State.write3; (repeat' split) <;> simp
@[simp] theorem State.write3_halted (s : State) (r : Mbc3) (n : Nat) (v : Byte) : (s.write3 r n v).halted = s.halted := by unfold State.write3; (repeat' split) <;> simp
@[simp] theorem State.write3_ifReg (s : State) (r : Mbc3) (n : Nat) (v : Byte) : (s.write3 r n v).ifReg = s.ifReg := by unfold State.write3; (repeat' split) <;> simp
@[simp] theorem State.write3_ieReg (s : State) (r : Mbc3) (n : Nat) (v : Byte) : (s.write3 r n v).ieReg = s.ieReg := by unfold State.write3; (repeat' split) <;> simp
@[simp] theorem State.write3_vram (s : State) (r : Mbc3) (n : Nat) (v : Byte) : (s.write3 r n v).vram = s.vram := by unfold State.write3; (repeat' split) <;> simp
@[simp] theorem State.write3_eram (s : State) (r : Mbc3) (n : Nat) (v : Byte) : (s.write3 r n v).eram = s.eram := by unfold State.write3; (repeat' split) <;> simp
@[simp] theorem State.write3_wram (s : State) (r : Mbc3) (n : Nat) (v : Byte) : (s.write3 r n v).wram = s.wram := by unfold State.write3; (repeat' split) <;> simp
@[simp] theorem State.write3_oam (s : State) (r : Mbc3) (n : Nat) (v : Byte) : (s.write3 r n v).oam = s.oam := by unfold State.write3; (repeat' split) <;> simp
@[simp] theorem State.write3_hram (s : State) (r : Mbc3) (n : Nat) (v : Byte) : (s.write3 r n v).hram = s.hram := by unfold State.write3; (repeat' split) <;> simp
@[simp] theorem State.write3_bootActive (s : State) (r : Mbc3) (n : Nat) (v : Byte) : (s.write3 r n v).bootActive = s.bootActive := by unfold State.write3; (repeat' split) <;> simp
@[simp] theorem State.write3_vramSel (s : State) (r : Mbc3) (n : Nat) (v : Byte) : (s.write3 r n v).vramSel = s.vramSel := by unfold State.write3; (repeat' split) <;> simp
@[simp] theorem State.write3_wramSel (s : State) (r : Mbc3) (n : Nat) (v : Byte) : (s.write3 r n v).wramSel = s.wramSel := by unfold State.write3; (repeat' split) <;> simp
@[simp] theorem State.write3_faultLatch (s : State) (r : Mbc3) (n : Nat) (v : Byte) : (s.write3 r n v).faultLatch = s.faultLatch := by unfold State.write3; (repeat' split) <;> simp
@[simp] theorem State.write3_par (s : State) (r : Mbc3) (n : Nat) (v : Byte) : (s.write3 r n v).par = s.par := by unfold State.write3; (repeat' split) <;> simp
@[simp] theorem State.write3_irqIn (s : State) (r : Mbc3) (n : Nat) (v : Byte) : (s.write3 r n v).irqIn = s.irqIn := by unfold State.write3; (repeat' split) <;> simp
@[simp] theorem State.write3_periphIn (s : State) (r : Mbc3) (n : Nat) (v : Byte) : (s.write3 r n v).periphIn = s.periphIn := by unfold State.write3; (repeat' split) <;> simp
@[simp] theorem State.write3_periphCount (s : State) (r : Mbc3) (n : Nat) (v : Byte) : (s.write3 r n v).periphCount = s.periphCount := by unfold State.write3; (repeat' split) <;> simp
@[simp] theorem State.write3_cycles (s : State) (r : Mbc3) (n : Nat) (v : Byte) : (s.write3 r n v).cycles = s.cycles := by unfold State.write3; (repeat' split) <;> simp

/-! ### An MBC5 write -/

@[simp] theorem State.write5_a (s : State) (r : Mbc5) (n : Nat) (v : Byte) : (s.write5 r n v).a = s.a := by unfold State.write5; (repeat' split) <;> simp
@[simp] theorem State.write5_f (s : State) (r : Mbc5) (n : Nat) (v : Byte) : (s.write5 r n v).f = s.f := by unfold State.write5; (repeat' split) <;> simp
@[simp] theorem State.write5_b (s : State) (r : Mbc5) (n : Nat) (v : Byte) : (s.write5 r n v).b = s.b := by unfold State.write5; (repeat' split) <;> simp
@[simp] theorem State.write5_c (s : State) (r : Mbc5) (n : Nat) (v : Byte) : (s.write5 r n v).c = s.c := by unfold State.write5; (repeat' split) <;> simp
@[simp] theorem State.write5_d (s : State) (r : Mbc5) (n : Nat) (v : Byte) : (s.write5 r n v).d = s.d := by unfold State.write5; (repeat' split) <;> simp
@[simp] theorem State.write5_e (s : State) (r : Mbc5) (n : Nat) (v : Byte) : (s.write5 r n v).e = s.e := by unfold State.write5; (repeat' split) <;> simp
@[simp] theorem State.write5_h (s : State) (r : Mbc5) (n : Nat) (v : Byte) : (s.write5 r n v).h = s.h := by unfold State.write5; (repeat' split) <;> simp
@[simp] theorem State.write5_l (s : State) (r : Mbc5) (n : Nat) (v : Byte) : (s.write5 r n v).l = s.l := by unfold State.write5; (repeat' split) <;> simp
@[simp] theorem State.write5_sp (s : State) (r : Mbc5) (n : Nat) (v : Byte) : (s.write5 r n v).sp = s.sp := by unfold State.write5; (repeat' split) <;> simp
@[simp] theorem State.write5_pc (s : State) (r : Mbc5) (n : Nat) (v : Byte) : (s.write5 r n v).pc = s.pc := by unfold State.write5; (repeat' split) <;> simp
@[simp] theorem State.write5_ime (s : State) (r : Mbc5) (n : Nat) (v : Byte) : (s.write5 r n v).ime = s.ime := by unfold State.write5; (repeat' split) <;> simp
@[simp] theorem State.write5_halted (s : State) (r : Mbc5) (n : Nat) (v : Byte) : (s.write5 r n v).halted = s.halted := by unfold State.write5; (repeat' split) <;> simp
@[simp] theorem State.write5_ifReg (s : State) (r : Mbc5) (n : Nat) (v : Byte) : (s.write5 r n v).ifReg = s.ifReg := by unfold State.write5; (repeat' split) <;> simp
@[simp] theorem State.write5_ieReg (s : State) (r : Mbc5) (n : Nat) (v : Byte) : (s.write5 r n v).ieReg = s.ieReg := by unfold State.write5; (repeat' split) <;> simp
@[simp] theorem State.write5_vram (s : State) (r : Mbc5) (n : Nat) (v : Byte) : (s.write5 r n v).vram = s.vram := by unfold State.write5; (repeat' split) <;> simp
@[simp] theorem State.write5_eram (s : State) (r : Mbc5) (n : Nat) (v : Byte) : (s.write5 r n v).eram = s.eram := by unfold State.write5; (repeat' split) <;> simp
@[simp] theorem State.write5_wram (s : State) (r : Mbc5) (n : Nat) (v : Byte) : (s.write5 r n v).wram = s.wram := by unfold State.write5; (repeat' split) <;> simp
@[simp] theorem State.write5_oam (s : State) (r : Mbc5) (n : Nat) (v : Byte) : (s.write5 r n v).oam = s.oam := by unfold State.write5; (repeat' split) <;> simp
@[simp] theorem State.write5_hram (s : State) (r : Mbc5) (n : Nat) (v : Byte) : (s.write5 r n v).hram = s.hram := by unfold State.write5; (repeat' split) <;> simp
@[simp] theorem State.write5_bootActive (s : State) (r : Mbc5) (n : Nat) (v : Byte) : (s.write5 r n v).bootActive = s.bootActive := by unfold State.write5; (repeat' split) <;> simp
@[simp] theorem State.write5_vramSel (s : State) (r : Mbc5) (n : Nat) (v : Byte) : (s.write5 r n v).vramSel = s.vramSel := by unfold State.write5; (repeat' split) <;> simp
@[simp] theorem State.write5_wramSel (s : State) (r : Mbc5) (n : Nat) (v : Byte) : (s.write5 r n v).wramSel = s.wramSel := by unfold State.write5; (repeat' split) <;> simp
@[simp] theorem State.write5_faultLatch (s : State) (r : Mbc5) (n : Nat) (v : Byte) : (s.write5 r n v).faultLatch = s.faultLatch := by unfold State.write5; (repeat' split) <;> simp
@[simp] theorem State.write5_par (s : State) (r : Mbc5) (n : Nat) (v : Byte) : (s.write5 r n v).par = s.par := by unfold State.write5; (repeat' split) <;> simp
@[simp] theorem State.write5_irqIn (s : State) (r : Mbc5) (n : Nat) (v : Byte) : (s.write5 r n v).irqIn = s.irqIn := by unfold State.write5; (repeat' split) <;> simp
@[simp] theorem State.write5_periphIn (s : State) (r : Mbc5) (n : Nat) (v : Byte) : (s.write5 r n v).periphIn = s.periphIn := by unfold State.write5; (repeat' split) <;> simp
@[simp] theorem State.write5_periphCount (s : State) (r : Mbc5) (n : Nat) (v : Byte) : (s.write5 r n v).periphCount = s.periphCount := by unfold State.write5; (repeat' split) <;> simp
@[simp] theorem State.write5_cycles (s : State) (r : Mbc5) (n : Nat) (v : Byte) : (s.write5 r n v).cycles = s.cycles := by unfold State.write5; (repeat' split) <;> simp

/-! ### A ROM-range write -/

@[simp] theorem State.romWrite_a (s : State) (x : Word) (v : Byte) : (s.romWrite x v).a = s.a := by unfold State.romWrite; split <;> simp
@[simp] theorem State.romWrite_f (s : State) (x : Word) (v : Byte) : (s.romWrite x v).f = s.f := by unfold State.romWrite; split <;> simp
@[simp] theorem State.romWrite_b (s : State) (x : Word) (v : Byte) : (s.romWrite x v).b = s.b := by unfold State.romWrite; split <;> simp
@[simp] theorem State.romWrite_c (s : State) (x : Word) (v : Byte) : (s.romWrite x v).c = s.c := by unfold State.romWrite; split <;> simp
@[simp] theorem State.romWrite_d (s : State) (x : Word) (v : Byte) : (s.romWrite x v).d = s.d := by unfold State.romWrite; split <;> simp
@[simp] theorem State.romWrite_e (s : State) (x : Word) (v : Byte) : (s.romWrite x v).e = s.e := by unfold State.romWrite; split <;> simp
@[simp] theorem State.romWrite_h (s : State) (x : Word) (v : Byte) : (s.romWrite x v).h = s.h := by unfold State.romWrite; split <;> simp
@[simp] theorem State.romWrite_l (s : State) (x : Word) (v : Byte) : (s.romWrite x v).l = s.l := by unfold State.romWrite; split <;> simp
@[simp] theorem State.romWrite_sp (s : State) (x : Word) (v : Byte) : (s.romWrite x v).sp = s.sp := by unfold State.romWrite; split <;> simp
@[simp] theorem State.romWrite_pc (s : State) (x : Word) (v : Byte) : (s.romWrite x v).pc = s.pc := by unfold State.romWrite; split <;> simp
@[simp] theorem State.romWrite_ime (s : State) (x : Word) (v : Byte) : (s.romWrite x v).ime = s.ime := by unfold State.romWrite; split <;> simp
@[simp] theorem State.romWrite_halted (s : State) (x : Word) (v : Byte) : (s.romWrite x v).halted = s.halted := by unfold State.romWrite; split <;> simp
@[simp] theorem State.romWrite_ifReg (s : State) (x : Word) (v : Byte) : (s.romWrite x v).ifReg = s.ifReg := by unfold State.romWrite; split <;> simp
@[simp] theorem State.romWrite_ieReg (s : State) (x : Word) (v : Byte) : (s.romWrite x v).ieReg = s.ieReg := by unfold State.romWrite; split <;> simp
@[simp] theorem State.romWrite_vram (s : State) (x : Word) (v : Byte) : (s.romWrite x v).vram = s.vram := by unfold State.romWrite; split <;> simp
@[simp] theorem State.romWrite_eram (s : State) (x : Word) (v : Byte) : (s.romWrite x v).eram = s.eram := by unfold State.romWrite; split <;> simp
@[simp] theorem State.romWrite_wram (s : State) (x : Word) (v : Byte) : (s.romWrite x v).wram = s.wram := by unfold State.romWrite; split <;> simp
@[simp] theorem State.romWrite_oam (s : State) (x : Word) (v : Byte) : (s.romWrite x v).oam = s.oam := by unfold State.romWrite; split <;> simp
@[simp] theorem State.romWrite_hram (s : State) (x : Word) (v : Byte) : (s.romWrite x v).hram = s.hram := by unfold State.romWrite; split <;> simp
@[simp] theorem State.romWrite_bootActive (s : State) (x : Word) (v : Byte) : (s.romWrite x v).bootActive = s.bootActive := by unfold State.romWrite; split <;> simp
@[simp] theorem State.romWrite_vramSel (s : State) (x : Word) (v : Byte) : (s.romWrite x v).vramSel = s.vramSel := by unfold State.romWrite; split <;> simp
@[simp] theorem State.romWrite_wramSel (s : State) (x : Word) (v : Byte) : (s.romWrite x v).wramSel = s.wramSel := by unfold State.romWrite; split <;> simp
@[simp] theorem State.romWrite_faultLatch (s : State) (x : Word) (v : Byte) : (s.romWrite x v).faultLatch = s.faultLatch := by unfold State.romWrite; split <;> simp
@[simp] theorem State.romWrite_par (s : State) (x : Word) (v : Byte) : (s.romWrite x v).par = s.par := by unfold State.romWrite; split <;> simp
@[simp] theorem State.romWrite_irqIn (s : State) (x : Word) (v : Byte) : (s.romWrite x v).irqIn = s.irqIn := by unfold State.romWrite; split <;> simp
@[simp] theorem State.romWrite_periphIn (s : State) (x : Word) (v : Byte) : (s.romWrite x v).periphIn = s.periphIn := by unfold State.romWrite; split <;> simp
@[simp] theorem State.romWrite_periphCount (s : State) (x : Word) (v : Byte) : (s.romWrite x v).periphCount = s.periphCount := by unfold State.romWrite; split <;> simp
@[simp] theorem State.romWrite_cycles (s : State) (x : Word) (v : Byte) : (s.romWrite x v).cycles = s.cycles := by unfold State.romWrite; split <;> simp

/-! ### A byte write -/

@[simp] theorem State.writeByte_a (s : State) (x : Word) (v : Byte) : (s.writeByte x v).a = s.a := by unfold State.writeByte; (repeat' split) <;> simp
@[simp] theorem State.writeByte_f (s : State) (x : Word) (v : Byte) : (s.writeByte x v).f = s.f := by unfold State.writeByte; (repeat' split) <;> simp
@[simp] theorem State.writeByte_b (s : State) (x : Word) (v : Byte) : (s.writeByte x v).b = s.b := by unfold State.writeByte; (repeat' split) <;> simp
@[simp] theorem State.writeByte_c (s : State) (x : Word) (v : Byte) : (s.writeByte x v).c = s.c := by unfold State.writeByte; (repeat' split) <;> simp
@[simp] theorem State.writeByte_d (s : State) (x : Word) (v : Byte) : (s.writeByte x v).d = s.d := by unfold State.writeByte; (repeat' split) <;> simp
@[simp] theorem State.writeByte_e (s : State) (x : Word) (v : Byte) : (s.writeByte x v).e = s.e := by unfold State.writeByte; (repeat' split) <;> simp
@[simp] theorem State.writeByte_h (s : State) (x : Word) (v : Byte) : (s.writeByte x v).h = s.h := by unfold State.writeByte; (repeat' split) <;> simp
@[simp] theorem State.writeByte_l (s : State) (x : Word) (v : Byte) : (s.writeByte x v).l = s.l := by unfold State.writeByte; (repeat' split) <;> simp
@[simp] theorem State.writeByte_sp (s : State) (x : Word) (v : Byte) : (s.writeByte x v).sp = s.sp := by unfold State.writeByte; (repeat' split) <;> simp
@[simp] theorem State.writeByte_pc (s : State) (x : Word) (v : Byte) : (s.writeByte x v).pc = s.pc := by unfold State.writeByte; (repeat' split) <;> simp
@[simp] theorem State.writeByte_ime (s : State) (x : Word) (v : Byte) : (s.writeByte x v).ime = s.ime := by unfold State.writeByte; (repeat' split) <;> simp
@[simp] theorem State.writeByte_halted (s : State) (x : Word) (v : Byte) : (s.writeByte x v).halted = s.halted := by unfold State.writeByte; (repeat' split) <;> simp
@[simp] theorem State.writeByte_faultLatch (s : State) (x : Word) (v : Byte) : (s.writeByte x v).faultLatch = s.faultLatch := by unfold State.writeByte; (repeat' split) <;> simp
@[simp] theorem State.writeByte_par (s : State) (x : Word) (v : Byte) : (s.writeByte x v).par = s.par := by unfold State.writeByte; (repeat' split) <;> simp
@[simp] theorem State.writeByte_irqIn (s : State) (x : Word) (v : Byte) : (s.writeByte x v).irqIn = s.irqIn := by unfold State.writeByte; (repeat' split) <;> simp
@[simp] theorem State.writeByte_periphIn (s : State) (x : Word) (v : Byte) : (s.writeByte x v).periphIn = s.periphIn := by unfold State.writeByte; (repeat' split) <;> simp
@[simp] theorem State.writeByte_periphCount (s : State) (x : Word) (v : Byte) : (s.writeByte x v).periphCount = s.periphCount := by unfold State.writeByte; (repeat' split) <;> simp
@[simp] theorem State.writeByte_cycles (s : State) (x : Word) (v : Byte) : (s.writeByte x v).cycles = s.cycles := by unfold State.writeByte; (repeat' split) <;> simp

/-! ### A word write -/

@[simp] theorem State.writeWord_a (s : State) (x : Word) (v : Word) : (s.writeWord x v).a = s.a := by simp [State.writeWord]
@[simp] theorem State.writeWord_f (s : State) (x : Word) (v : Word) : (s.writeWord x v).f = s.f := by simp [State.writeWord]
@[simp] theorem State.writeWord_b (s : State) (x : Word) (v : Word) : (s.writeWord x v).b = s.b := by simp [State.writeWord]
@[simp] theorem State.writeWord_c (s : State) (x : Word) (v : Word) : (s.writeWord x v).c = s.c := by simp [State.writeWord]
@[simp] theorem State.writeWord_d (s : State) (x : Word) (v : Word) : (s.writeWord x v).d = s.d := by simp [State.writeWord]
@[simp] theorem State.writeWord_e (s : State) (x : Word) (v : Word) : (s.writeWord x v).e = s.e := by simp [State.writeWord]
@[simp] theorem State.writeWord_h (s : State) (x : Word) (v : Word) : (s.writeWord x v).h = s.h := by simp [State.writeWord]
@[simp] theorem State.writeWord_l (s : State) (x : Word) (v : Word) : (s.writeWord x v).l = s.l := by simp [State.writeWord]
@[simp] theorem State.writeWord_sp (s : State) (x : Word) (v : Word) : (s.writeWord x v).sp = s.sp := by simp [State.writeWord]
@[simp] theorem State.writeWord_pc (s : State) (x : Word) (v : Word) : (s.writeWord x v).pc = s.pc := by simp [State.writeWord]
@[simp] theorem State.writeWord_ime (s : State) (x : Word) (v : Word) : (s.writeWord x v).ime = s.ime := by simp [State.writeWord]
@[simp] theorem State.writeWord_halted (s : State) (x : Word) (v : Word) : (s.writeWord x v).halted = s.halted := by simp [State.writeWord]
@[simp] theorem State.writeWord_faultLatch (s : State) (x : Word) (v : Word) : (s.writeWord x v).faultLatch = s.faultLatch := by simp [State.writeWord]
@[simp] theorem State.writeWord_par (s : State) (x : Word) (v : Word) : (s.writeWord x v).par = s.par := by simp [State.writeWord]
@[simp] theorem State.writeWord_irqIn (s : State) (x : Word) (v : Word) : (s.writeWord x v).irqIn = s.irqIn := by simp [State.writeWord]
@[simp] theorem State.writeWord_periphIn (s : State) (x : Word) (v : Word) : (s.writeWord x v).periphIn = s.periphIn := by simp [State.writeWord]
@[simp] theorem State.writeWord_periphCount (s : State) (x : Word) (v : Word) : (s.writeWord x v).periphCount = s.periphCount := by simp [State.writeWord]
@[simp] theorem State.writeWord_cycles (s : State) (x : Word) (v : Word) : (s.writeWord x v).cycles = s.cycles := by simp [State.writeWord]

/-! ### A push -/

@[simp] theorem State.push_a (s : State) (v : Word) : (s.push v).a = s.a := by simp [State.push]
@[simp] theorem State.push_f (s : State) (v : Word) : (s.push v).f = s.f := by simp [State.push]
@[simp] theorem State.push_b (s : State) (v : Word) : (s.push v).b = s.b := by simp [State.push]
@[simp] theorem State.push_c (s : State) (v : Word) : (s.push v).c = s.c := by simp [State.push]
@[simp] theorem State.push_d (s : State) (v : Word) : (s.push v).d = s.d := by simp [State.push]
@[simp] theorem State.push_e (s : State) (v : Word) : (s.push v).e = s.e := by simp [State.push]
@[simp] theorem State.push_h (s : State) (v : Word) : (s.push v).h = s.h := by simp [State.push]
@[simp] theorem State.push_l (s : State) (v : Word) : (s.push v).l = s.l := by simp [State.push]
@[simp] theorem State.push_pc (s : State) (v : Word) : (s.push v).pc = s.pc := by simp [State.push]
@[simp] theorem State.push_ime (s : State) (v : Word) : (s.push v).ime = s.ime := by simp [State.push]
@[simp] theorem State.push_halted (s : State) (v : Word) : (s.push v).halted = s.halted := by simp [State.push]
@[simp] theorem State.push_faultLatch (s : State) (v : Word) : (s.push v).faultLatch = s.faultLatch := by simp [State.push]
@[simp] theorem State.push_par (s : State) (v : Word) : (s.push v).par = s.par := by simp [State.push]
@[simp] theorem State.push_irqIn (s : State) (v : Word) : (s.push v).irqIn = s.irqIn := by simp [State.push]
@[simp] theorem State.push_periphIn (s : State) (v : Word) : (s.push v).periphIn = s.periphIn := by simp [State.push]
@[simp] theorem State.push_periphCount (s : State) (v : Word) : (s.push v).periphCount = s.periphCount := by simp [State.push]
@[simp] theorem State.push_cycles (s : State) (v : Word) : (s.push v).cycles = s.cycles := by simp [State.push]

/-! ### Requests presented -/

@[simp] theorem State.presentRequests_a (s : State) : (s.presentRequests).a = s.a := by unfold State.presentRequests; split <;> rfl
@[simp] theorem State.presentRequests_f (s : State) : (s.presentRequests).f = s.f := by unfold State.presentRequests; split <;> rfl
@[simp] theorem State.presentRequests_b (s : State) : (s.presentRequests).b = s.b := by unfold State.presentRequests; split <;> rfl
@[simp] theorem State.presentRequests_c (s : State) : (s.presentRequests).c = s.c := by unfold State.presentRequests; split <;> rfl
@[simp] theorem State.presentRequests_d (s : State) : (s.presentRequests).d = s.d := by unfold State.presentRequests; split <;> rfl
@[simp] theorem State.presentRequests_e (s : State) : (s.presentRequests).e = s.e := by unfold State.presentRequests; split <;> rfl
@[simp] theorem State.presentRequests_h (s : State) : (s.presentRequests).h = s.h := by unfold State.presentRequests; split <;> rfl
@[simp] theorem State.presentRequests_l (s : State) : (s.presentRequests).l = s.l := by unfold State.presentRequests; split <;> rfl
@[simp] theorem State.presentRequests_sp (s : State) : (s.presentRequests).sp = s.sp := by unfold State.presentRequests; split <;> rfl
@[simp] theorem State.presentRequests_pc (s : State) : (s.presentRequests).pc = s.pc := by unfold State.presentRequests; split <;> rfl
@[simp] theorem State.presentRequests_ime (s : State) : (s.presentRequests).ime = s.ime := by unfold State.presentRequests; split <;> rfl
@[simp] theorem State.presentRequests_halted (s : State) : (s.presentRequests).halted = s.halted := by unfold State.presentRequests; split <;> rfl
@[simp] theorem State.presentRequests_ieReg (s : State) : (s.presentRequests).ieReg = s.ieReg := by unfold State.presentRequests; split <;> rfl
@[simp] theorem State.presentRequests_vram (s : State) : (s.presentRequests).vram = s.vram := by unfold State.presentRequests; split <;> rfl
@[simp] theorem State.presentRequests_eram (s : State) : (s.presentRequests).eram = s.eram := by unfold State.presentRequests; split <;> rfl
@[simp] theorem State.presentRequests_wram (s : State) : (s.presentRequests).wram = s.wram := by unfold State.presentRequests; split <;> rfl
@[simp] theorem State.presentRequests_oam (s : State) : (s.presentRequests).oam = s.oam := by unfold State.presentRequests; split <;> rfl
@[simp] theorem State.presentRequests_hram (s : State) : (s.presentRequests).hram = s.hram := by unfold State.presentRequests; split <;> rfl
@[simp] theorem State.presentRequests_bootActive (s : State) : (s.presentRequests).bootActive = s.bootActive := by unfold State.presentRequests; split <;> rfl
@[simp] theorem State.presentRequests_rom1Sel (s : State) : (s.presentRequests).rom1Sel = s.rom1Sel := by unfold State.presentRequests; split <;> rfl
@[simp] theorem State.presentRequests_eramSel (s : State) : (s.presentRequests).eramSel = s.eramSel := by unfold State.presentRequests; split <;> rfl
@[simp] theorem State.presentRequests_vramSel (s : State) : (s.presentRequests).vramSel = s.vramSel := by unfold State.presentRequests; split <;> rfl
@[simp] theorem State.presentRequests_wramSel (s : State) : (s.presentRequests).wramSel = s.wramSel := by unfold State.presentRequests; split <;> rfl
@[simp] theorem State.presentRequests_mbc (s : State) : (s.presentRequests).mbc = s.mbc := by unfold State.presentRequests; split <;> rfl
@[simp] theorem State.presentRequests_faultLatch (s : State) : (s.presentRequests).faultLatch = s.faultLatch := by unfold State.presentRequests; split <;> rfl
@[simp] theorem State.presentRequests_par (s : State) : (s.presentRequests).par = s.par := by unfold State.presentRequests; split <;> rfl
@[simp] theorem State.presentRequests_periphIn (s : State) : (s.presentRequests).periphIn = s.periphIn := by unfold State.presentRequests; split <;> rfl
@[simp] theorem State.presentRequests_periphCount (s : State) : (s.presentRequests).periphCount = s.periphCount := by unfold State.presentRequests; split <;> rfl
@[simp] theorem State.presentRequests_events (s : State) : (s.presentRequests).events = s.events := by unfold State.presentRequests; split <;> rfl
@[simp] theorem State.presentRequests_cycles (s : State) : (s.presentRequests).cycles = s.cycles := by unfold State.presentRequests; split <;> rfl

/-! ### What each update writes -/

@[simp] theorem State.report_cycles (s : State) (n : Nat) : (s.report n).cycles = n := rfl
@[simp] theorem State.setF_f (s : State) (v : Byte) : (s.setF v).f = v &&& 0xF0#8 := rfl
@[simp] theorem State.setHL_h (s : State) (v : Word) : (s.setHL v).h = hiByte v := rfl
@[simp] theorem State.setHL_l (s : State) (v : Word) : (s.setHL v).l = loByte v := rfl
@[simp] theorem State.emit_events (s : State) (x : Event) : (s.emit x).events = s.events ++ [x] := rfl
@[simp] theorem State.diag_events (s : State) (k : DiagKind) (x : Word) :
    (s.diag k x).events = s.events ++ [.diag k x] := rfl
@[simp] theorem State.afterPop_sp (s : State) : s.afterPop.sp = s.sp + 2 := rfl
@[simp] theorem State.push_sp (s : State) (v : Word) : (s.push v).sp = s.sp - 2 := by simp [State.push]

end Sys2Proof.Machine
end

