-- ==== Sys2Proof/Laws/Ops.lean ====
section
/-!
SUPPORT. What each shared operation does, said once: registers and flags, the address decoder, reads, stores, the bank
controllers, words and the stack. The meanings' proofs cite these.
-/

namespace Sys2Proof.Machine

/-! ## Registers and flags -/

@[simp] theorem State.reg_setReg (s : State) (r q : Reg8) (v : Byte) :
    (s.setReg r v).reg q = if r = q then v else s.reg q := by
  cases r <;> cases q <;> rfl

/-- A register is read from its own field: the other updates do not move it. -/
theorem State.reg_congr {s t : State} (ha : t.a = s.a) (hb : t.b = s.b) (hc : t.c = s.c) (hd : t.d = s.d)
    (he : t.e = s.e) (hh : t.h = s.h) (hl : t.l = s.l) (r : Reg8) : t.reg r = s.reg r := by
  cases r <;> simp [State.reg, *]

/-! ### The register, pair and flag views of each update that leaves them -/

@[simp] theorem State.flagZ_setReg (s : State) (r : Reg8) (v : Byte) : (s.setReg r v).flagZ = s.flagZ := by
  simp [State.flagZ]
@[simp] theorem State.flagN_setReg (s : State) (r : Reg8) (v : Byte) : (s.setReg r v).flagN = s.flagN := by
  simp [State.flagN]
@[simp] theorem State.flagH_setReg (s : State) (r : Reg8) (v : Byte) : (s.setReg r v).flagH = s.flagH := by
  simp [State.flagH]
@[simp] theorem State.flagC_setReg (s : State) (r : Reg8) (v : Byte) : (s.setReg r v).flagC = s.flagC := by
  simp [State.flagC]
@[simp] theorem State.reg_setF (s : State) (v : Byte) (w : Reg8) : (s.setF v).reg w = s.reg w :=
  State.reg_congr (by simp) (by simp) (by simp) (by simp) (by simp) (by simp) (by simp) w
@[simp] theorem State.hl_setF (s : State) (v : Byte) : (s.setF v).hl = s.hl := by
  simp [State.hl]
@[simp] theorem State.bc_setF (s : State) (v : Byte) : (s.setF v).bc = s.bc := by
  simp [State.bc]
@[simp] theorem State.de_setF (s : State) (v : Byte) : (s.setF v).de = s.de := by
  simp [State.de]
@[simp] theorem State.reg_setFlags (s : State) (z : Bool) (n : Bool) (h : Bool) (c : Bool) (w : Reg8) : (s.setFlags z n h c).reg w = s.reg w :=
  State.reg_congr (by simp) (by simp) (by simp) (by simp) (by simp) (by simp) (by simp) w
@[simp] theorem State.hl_setFlags (s : State) (z : Bool) (n : Bool) (h : Bool) (c : Bool) : (s.setFlags z n h c).hl = s.hl := by
  simp [State.hl]
@[simp] theorem State.bc_setFlags (s : State) (z : Bool) (n : Bool) (h : Bool) (c : Bool) : (s.setFlags z n h c).bc = s.bc := by
  simp [State.bc]
@[simp] theorem State.de_setFlags (s : State) (z : Bool) (n : Bool) (h : Bool) (c : Bool) : (s.setFlags z n h c).de = s.de := by
  simp [State.de]
@[simp] theorem State.bc_setHL (s : State) (v : Word) : (s.setHL v).bc = s.bc := by
  simp [State.bc]
@[simp] theorem State.de_setHL (s : State) (v : Word) : (s.setHL v).de = s.de := by
  simp [State.de]
@[simp] theorem State.flagZ_setHL (s : State) (v : Word) : (s.setHL v).flagZ = s.flagZ := by
  simp [State.flagZ]
@[simp] theorem State.flagN_setHL (s : State) (v : Word) : (s.setHL v).flagN = s.flagN := by
  simp [State.flagN]
@[simp] theorem State.flagH_setHL (s : State) (v : Word) : (s.setHL v).flagH = s.flagH := by
  simp [State.flagH]
@[simp] theorem State.flagC_setHL (s : State) (v : Word) : (s.setHL v).flagC = s.flagC := by
  simp [State.flagC]
@[simp] theorem State.flagZ_setPair (s : State) (r : Reg16) (v : Word) : (s.setPair r v).flagZ = s.flagZ := by
  simp [State.flagZ]
@[simp] theorem State.flagN_setPair (s : State) (r : Reg16) (v : Word) : (s.setPair r v).flagN = s.flagN := by
  simp [State.flagN]
@[simp] theorem State.flagH_setPair (s : State) (r : Reg16) (v : Word) : (s.setPair r v).flagH = s.flagH := by
  simp [State.flagH]
@[simp] theorem State.flagC_setPair (s : State) (r : Reg16) (v : Word) : (s.setPair r v).flagC = s.flagC := by
  simp [State.flagC]
@[simp] theorem State.reg_report (s : State) (n : Nat) (w : Reg8) : (s.report n).reg w = s.reg w :=
  State.reg_congr (by simp) (by simp) (by simp) (by simp) (by simp) (by simp) (by simp) w
@[simp] theorem State.hl_report (s : State) (n : Nat) : (s.report n).hl = s.hl := by
  simp [State.hl]
@[simp] theorem State.bc_report (s : State) (n : Nat) : (s.report n).bc = s.bc := by
  simp [State.bc]
@[simp] theorem State.de_report (s : State) (n : Nat) : (s.report n).de = s.de := by
  simp [State.de]
@[simp] theorem State.flagZ_report (s : State) (n : Nat) : (s.report n).flagZ = s.flagZ := by
  simp [State.flagZ]
@[simp] theorem State.flagN_report (s : State) (n : Nat) : (s.report n).flagN = s.flagN := by
  simp [State.flagN]
@[simp] theorem State.flagH_report (s : State) (n : Nat) : (s.report n).flagH = s.flagH := by
  simp [State.flagH]
@[simp] theorem State.flagC_report (s : State) (n : Nat) : (s.report n).flagC = s.flagC := by
  simp [State.flagC]
@[simp] theorem State.reg_emit (s : State) (x : Event) (w : Reg8) : (s.emit x).reg w = s.reg w :=
  State.reg_congr (by simp) (by simp) (by simp) (by simp) (by simp) (by simp) (by simp) w
@[simp] theorem State.hl_emit (s : State) (x : Event) : (s.emit x).hl = s.hl := by
  simp [State.hl]
@[simp] theorem State.bc_emit (s : State) (x : Event) : (s.emit x).bc = s.bc := by
  simp [State.bc]
@[simp] theorem State.de_emit (s : State) (x : Event) : (s.emit x).de = s.de := by
  simp [State.de]
@[simp] theorem State.flagZ_emit (s : State) (x : Event) : (s.emit x).flagZ = s.flagZ := by
  simp [State.flagZ]
@[simp] theorem State.flagN_emit (s : State) (x : Event) : (s.emit x).flagN = s.flagN := by
  simp [State.flagN]
@[simp] theorem State.flagH_emit (s : State) (x : Event) : (s.emit x).flagH = s.flagH := by
  simp [State.flagH]
@[simp] theorem State.flagC_emit (s : State) (x : Event) : (s.emit x).flagC = s.flagC := by
  simp [State.flagC]
@[simp] theorem State.reg_diag (s : State) (k : DiagKind) (x : Word) (w : Reg8) : (s.diag k x).reg w = s.reg w :=
  State.reg_congr (by simp) (by simp) (by simp) (by simp) (by simp) (by simp) (by simp) w
@[simp] theorem State.hl_diag (s : State) (k : DiagKind) (x : Word) : (s.diag k x).hl = s.hl := by
  simp [State.hl]
@[simp] theorem State.bc_diag (s : State) (k : DiagKind) (x : Word) : (s.diag k x).bc = s.bc := by
  simp [State.bc]
@[simp] theorem State.de_diag (s : State) (k : DiagKind) (x : Word) : (s.diag k x).de = s.de := by
  simp [State.de]
@[simp] theorem State.flagZ_diag (s : State) (k : DiagKind) (x : Word) : (s.diag k x).flagZ = s.flagZ := by
  simp [State.flagZ]
@[simp] theorem State.flagN_diag (s : State) (k : DiagKind) (x : Word) : (s.diag k x).flagN = s.flagN := by
  simp [State.flagN]
@[simp] theorem State.flagH_diag (s : State) (k : DiagKind) (x : Word) : (s.diag k x).flagH = s.flagH := by
  simp [State.flagH]
@[simp] theorem State.flagC_diag (s : State) (k : DiagKind) (x : Word) : (s.diag k x).flagC = s.flagC := by
  simp [State.flagC]
@[simp] theorem State.reg_dropAnswer (s : State) (w : Reg8) : (s.dropAnswer).reg w = s.reg w :=
  State.reg_congr (by simp) (by simp) (by simp) (by simp) (by simp) (by simp) (by simp) w
@[simp] theorem State.hl_dropAnswer (s : State) : (s.dropAnswer).hl = s.hl := by
  simp [State.hl]
@[simp] theorem State.bc_dropAnswer (s : State) : (s.dropAnswer).bc = s.bc := by
  simp [State.bc]
@[simp] theorem State.de_dropAnswer (s : State) : (s.dropAnswer).de = s.de := by
  simp [State.de]
@[simp] theorem State.flagZ_dropAnswer (s : State) : (s.dropAnswer).flagZ = s.flagZ := by
  simp [State.flagZ]
@[simp] theorem State.flagN_dropAnswer (s : State) : (s.dropAnswer).flagN = s.flagN := by
  simp [State.flagN]
@[simp] theorem State.flagH_dropAnswer (s : State) : (s.dropAnswer).flagH = s.flagH := by
  simp [State.flagH]
@[simp] theorem State.flagC_dropAnswer (s : State) : (s.dropAnswer).flagC = s.flagC := by
  simp [State.flagC]
@[simp] theorem State.reg_afterRead (s : State) (x : Word) (w : Reg8) : (s.afterRead x).reg w = s.reg w :=
  State.reg_congr (by simp) (by simp) (by simp) (by simp) (by simp) (by simp) (by simp) w
@[simp] theorem State.hl_afterRead (s : State) (x : Word) : (s.afterRead x).hl = s.hl := by
  simp [State.hl]
@[simp] theorem State.bc_afterRead (s : State) (x : Word) : (s.afterRead x).bc = s.bc := by
  simp [State.bc]
@[simp] theorem State.de_afterRead (s : State) (x : Word) : (s.afterRead x).de = s.de := by
  simp [State.de]
@[simp] theorem State.flagZ_afterRead (s : State) (x : Word) : (s.afterRead x).flagZ = s.flagZ := by
  simp [State.flagZ]
@[simp] theorem State.flagN_afterRead (s : State) (x : Word) : (s.afterRead x).flagN = s.flagN := by
  simp [State.flagN]
@[simp] theorem State.flagH_afterRead (s : State) (x : Word) : (s.afterRead x).flagH = s.flagH := by
  simp [State.flagH]
@[simp] theorem State.flagC_afterRead (s : State) (x : Word) : (s.afterRead x).flagC = s.flagC := by
  simp [State.flagC]
@[simp] theorem State.reg_afterReadWord (s : State) (x : Word) (w : Reg8) : (s.afterReadWord x).reg w = s.reg w :=
  State.reg_congr (by simp) (by simp) (by simp) (by simp) (by simp) (by simp) (by simp) w
@[simp] theorem State.hl_afterReadWord (s : State) (x : Word) : (s.afterReadWord x).hl = s.hl := by
  simp [State.hl]
@[simp] theorem State.bc_afterReadWord (s : State) (x : Word) : (s.afterReadWord x).bc = s.bc := by
  simp [State.bc]
@[simp] theorem State.de_afterReadWord (s : State) (x : Word) : (s.afterReadWord x).de = s.de := by
  simp [State.de]
@[simp] theorem State.flagZ_afterReadWord (s : State) (x : Word) : (s.afterReadWord x).flagZ = s.flagZ := by
  simp [State.flagZ]
@[simp] theorem State.flagN_afterReadWord (s : State) (x : Word) : (s.afterReadWord x).flagN = s.flagN := by
  simp [State.flagN]
@[simp] theorem State.flagH_afterReadWord (s : State) (x : Word) : (s.afterReadWord x).flagH = s.flagH := by
  simp [State.flagH]
@[simp] theorem State.flagC_afterReadWord (s : State) (x : Word) : (s.afterReadWord x).flagC = s.flagC := by
  simp [State.flagC]
@[simp] theorem State.reg_afterPop (s : State) (w : Reg8) : (s.afterPop).reg w = s.reg w :=
  State.reg_congr (by simp) (by simp) (by simp) (by simp) (by simp) (by simp) (by simp) w
@[simp] theorem State.hl_afterPop (s : State) : (s.afterPop).hl = s.hl := by
  simp [State.hl]
@[simp] theorem State.bc_afterPop (s : State) : (s.afterPop).bc = s.bc := by
  simp [State.bc]
@[simp] theorem State.de_afterPop (s : State) : (s.afterPop).de = s.de := by
  simp [State.de]
@[simp] theorem State.flagZ_afterPop (s : State) : (s.afterPop).flagZ = s.flagZ := by
  simp [State.flagZ]
@[simp] theorem State.flagN_afterPop (s : State) : (s.afterPop).flagN = s.flagN := by
  simp [State.flagN]
@[simp] theorem State.flagH_afterPop (s : State) : (s.afterPop).flagH = s.flagH := by
  simp [State.flagH]
@[simp] theorem State.flagC_afterPop (s : State) : (s.afterPop).flagC = s.flagC := by
  simp [State.flagC]
@[simp] theorem State.reg_setCell (s : State) (x : Store × Nat) (v : Byte) (w : Reg8) : (s.setCell x v).reg w = s.reg w :=
  State.reg_congr (by simp) (by simp) (by simp) (by simp) (by simp) (by simp) (by simp) w
@[simp] theorem State.hl_setCell (s : State) (x : Store × Nat) (v : Byte) : (s.setCell x v).hl = s.hl := by
  simp [State.hl]
@[simp] theorem State.bc_setCell (s : State) (x : Store × Nat) (v : Byte) : (s.setCell x v).bc = s.bc := by
  simp [State.bc]
@[simp] theorem State.de_setCell (s : State) (x : Store × Nat) (v : Byte) : (s.setCell x v).de = s.de := by
  simp [State.de]
@[simp] theorem State.flagZ_setCell (s : State) (x : Store × Nat) (v : Byte) : (s.setCell x v).flagZ = s.flagZ := by
  simp [State.flagZ]
@[simp] theorem State.flagN_setCell (s : State) (x : Store × Nat) (v : Byte) : (s.setCell x v).flagN = s.flagN := by
  simp [State.flagN]
@[simp] theorem State.flagH_setCell (s : State) (x : Store × Nat) (v : Byte) : (s.setCell x v).flagH = s.flagH := by
  simp [State.flagH]
@[simp] theorem State.flagC_setCell (s : State) (x : Store × Nat) (v : Byte) : (s.setCell x v).flagC = s.flagC := by
  simp [State.flagC]
@[simp] theorem State.reg_storeAt (s : State) (x : Word) (v : Byte) (w : Reg8) : (s.storeAt x v).reg w = s.reg w :=
  State.reg_congr (by simp) (by simp) (by simp) (by simp) (by simp) (by simp) (by simp) w
@[simp] theorem State.hl_storeAt (s : State) (x : Word) (v : Byte) : (s.storeAt x v).hl = s.hl := by
  simp [State.hl]
@[simp] theorem State.bc_storeAt (s : State) (x : Word) (v : Byte) : (s.storeAt x v).bc = s.bc := by
  simp [State.bc]
@[simp] theorem State.de_storeAt (s : State) (x : Word) (v : Byte) : (s.storeAt x v).de = s.de := by
  simp [State.de]
@[simp] theorem State.flagZ_storeAt (s : State) (x : Word) (v : Byte) : (s.storeAt x v).flagZ = s.flagZ := by
  simp [State.flagZ]
@[simp] theorem State.flagN_storeAt (s : State) (x : Word) (v : Byte) : (s.storeAt x v).flagN = s.flagN := by
  simp [State.flagN]
@[simp] theorem State.flagH_storeAt (s : State) (x : Word) (v : Byte) : (s.storeAt x v).flagH = s.flagH := by
  simp [State.flagH]
@[simp] theorem State.flagC_storeAt (s : State) (x : Word) (v : Byte) : (s.storeAt x v).flagC = s.flagC := by
  simp [State.flagC]
@[simp] theorem State.reg_saveOnDisable (s : State) (x : Bool) (y : Bool) (w : Reg8) : (s.saveOnDisable x y).reg w = s.reg w :=
  State.reg_congr (by simp) (by simp) (by simp) (by simp) (by simp) (by simp) (by simp) w
@[simp] theorem State.hl_saveOnDisable (s : State) (x : Bool) (y : Bool) : (s.saveOnDisable x y).hl = s.hl := by
  simp [State.hl]
@[simp] theorem State.bc_saveOnDisable (s : State) (x : Bool) (y : Bool) : (s.saveOnDisable x y).bc = s.bc := by
  simp [State.bc]
@[simp] theorem State.de_saveOnDisable (s : State) (x : Bool) (y : Bool) : (s.saveOnDisable x y).de = s.de := by
  simp [State.de]
@[simp] theorem State.flagZ_saveOnDisable (s : State) (x : Bool) (y : Bool) : (s.saveOnDisable x y).flagZ = s.flagZ := by
  simp [State.flagZ]
@[simp] theorem State.flagN_saveOnDisable (s : State) (x : Bool) (y : Bool) : (s.saveOnDisable x y).flagN = s.flagN := by
  simp [State.flagN]
@[simp] theorem State.flagH_saveOnDisable (s : State) (x : Bool) (y : Bool) : (s.saveOnDisable x y).flagH = s.flagH := by
  simp [State.flagH]
@[simp] theorem State.flagC_saveOnDisable (s : State) (x : Bool) (y : Bool) : (s.saveOnDisable x y).flagC = s.flagC := by
  simp [State.flagC]
@[simp] theorem State.reg_remap1 (s : State) (r : Mbc1) (w : Reg8) : (s.remap1 r).reg w = s.reg w :=
  State.reg_congr (by simp) (by simp) (by simp) (by simp) (by simp) (by simp) (by simp) w
@[simp] theorem State.hl_remap1 (s : State) (r : Mbc1) : (s.remap1 r).hl = s.hl := by
  simp [State.hl]
@[simp] theorem State.bc_remap1 (s : State) (r : Mbc1) : (s.remap1 r).bc = s.bc := by
  simp [State.bc]
@[simp] theorem State.de_remap1 (s : State) (r : Mbc1) : (s.remap1 r).de = s.de := by
  simp [State.de]
@[simp] theorem State.flagZ_remap1 (s : State) (r : Mbc1) : (s.remap1 r).flagZ = s.flagZ := by
  simp [State.flagZ]
@[simp] theorem State.flagN_remap1 (s : State) (r : Mbc1) : (s.remap1 r).flagN = s.flagN := by
  simp [State.flagN]
@[simp] theorem State.flagH_remap1 (s : State) (r : Mbc1) : (s.remap1 r).flagH = s.flagH := by
  simp [State.flagH]
@[simp] theorem State.flagC_remap1 (s : State) (r : Mbc1) : (s.remap1 r).flagC = s.flagC := by
  simp [State.flagC]
@[simp] theorem State.reg_remap5 (s : State) (r : Mbc5) (w : Reg8) : (s.remap5 r).reg w = s.reg w :=
  State.reg_congr (by simp) (by simp) (by simp) (by simp) (by simp) (by simp) (by simp) w
@[simp] theorem State.hl_remap5 (s : State) (r : Mbc5) : (s.remap5 r).hl = s.hl := by
  simp [State.hl]
@[simp] theorem State.bc_remap5 (s : State) (r : Mbc5) : (s.remap5 r).bc = s.bc := by
  simp [State.bc]
@[simp] theorem State.de_remap5 (s : State) (r : Mbc5) : (s.remap5 r).de = s.de := by
  simp [State.de]
@[simp] theorem State.flagZ_remap5 (s : State) (r : Mbc5) : (s.remap5 r).flagZ = s.flagZ := by
  simp [State.flagZ]
@[simp] theorem State.flagN_remap5 (s : State) (r : Mbc5) : (s.remap5 r).flagN = s.flagN := by
  simp [State.flagN]
@[simp] theorem State.flagH_remap5 (s : State) (r : Mbc5) : (s.remap5 r).flagH = s.flagH := by
  simp [State.flagH]
@[simp] theorem State.flagC_remap5 (s : State) (r : Mbc5) : (s.remap5 r).flagC = s.flagC := by
  simp [State.flagC]
@[simp] theorem State.reg_write1 (s : State) (r : Mbc1) (n : Nat) (v : Byte) (w : Reg8) : (s.write1 r n v).reg w = s.reg w :=
  State.reg_congr (by simp) (by simp) (by simp) (by simp) (by simp) (by simp) (by simp) w
@[simp] theorem State.hl_write1 (s : State) (r : Mbc1) (n : Nat) (v : Byte) : (s.write1 r n v).hl = s.hl := by
  simp [State.hl]
@[simp] theorem State.bc_write1 (s : State) (r : Mbc1) (n : Nat) (v : Byte) : (s.write1 r n v).bc = s.bc := by
  simp [State.bc]
@[simp] theorem State.de_write1 (s : State) (r : Mbc1) (n : Nat) (v : Byte) : (s.write1 r n v).de = s.de := by
  simp [State.de]
@[simp] theorem State.flagZ_write1 (s : State) (r : Mbc1) (n : Nat) (v : Byte) : (s.write1 r n v).flagZ = s.flagZ := by
  simp [State.flagZ]
@[simp] theorem State.flagN_write1 (s : State) (r : Mbc1) (n : Nat) (v : Byte) : (s.write1 r n v).flagN = s.flagN := by
  simp [State.flagN]
@[simp] theorem State.flagH_write1 (s : State) (r : Mbc1) (n : Nat) (v : Byte) : (s.write1 r n v).flagH = s.flagH := by
  simp [State.flagH]
@[simp] theorem State.flagC_write1 (s : State) (r : Mbc1) (n : Nat) (v : Byte) : (s.write1 r n v).flagC = s.flagC := by
  simp [State.flagC]
@[simp] theorem State.reg_write3 (s : State) (r : Mbc3) (n : Nat) (v : Byte) (w : Reg8) : (s.write3 r n v).reg w = s.reg w :=
  State.reg_congr (by simp) (by simp) (by simp) (by simp) (by simp) (by simp) (by simp) w
@[simp] theorem State.hl_write3 (s : State) (r : Mbc3) (n : Nat) (v : Byte) : (s.write3 r n v).hl = s.hl := by
  simp [State.hl]
@[simp] theorem State.bc_write3 (s : State) (r : Mbc3) (n : Nat) (v : Byte) : (s.write3 r n v).bc = s.bc := by
  simp [State.bc]
@[simp] theorem State.de_write3 (s : State) (r : Mbc3) (n : Nat) (v : Byte) : (s.write3 r n v).de = s.de := by
  simp [State.de]
@[simp] theorem State.flagZ_write3 (s : State) (r : Mbc3) (n : Nat) (v : Byte) : (s.write3 r n v).flagZ = s.flagZ := by
  simp [State.flagZ]
@[simp] theorem State.flagN_write3 (s : State) (r : Mbc3) (n : Nat) (v : Byte) : (s.write3 r n v).flagN = s.flagN := by
  simp [State.flagN]
@[simp] theorem State.flagH_write3 (s : State) (r : Mbc3) (n : Nat) (v : Byte) : (s.write3 r n v).flagH = s.flagH := by
  simp [State.flagH]
@[simp] theorem State.flagC_write3 (s : State) (r : Mbc3) (n : Nat) (v : Byte) : (s.write3 r n v).flagC = s.flagC := by
  simp [State.flagC]
@[simp] theorem State.reg_write5 (s : State) (r : Mbc5) (n : Nat) (v : Byte) (w : Reg8) : (s.write5 r n v).reg w = s.reg w :=
  State.reg_congr (by simp) (by simp) (by simp) (by simp) (by simp) (by simp) (by simp) w
@[simp] theorem State.hl_write5 (s : State) (r : Mbc5) (n : Nat) (v : Byte) : (s.write5 r n v).hl = s.hl := by
  simp [State.hl]
@[simp] theorem State.bc_write5 (s : State) (r : Mbc5) (n : Nat) (v : Byte) : (s.write5 r n v).bc = s.bc := by
  simp [State.bc]
@[simp] theorem State.de_write5 (s : State) (r : Mbc5) (n : Nat) (v : Byte) : (s.write5 r n v).de = s.de := by
  simp [State.de]
@[simp] theorem State.flagZ_write5 (s : State) (r : Mbc5) (n : Nat) (v : Byte) : (s.write5 r n v).flagZ = s.flagZ := by
  simp [State.flagZ]
@[simp] theorem State.flagN_write5 (s : State) (r : Mbc5) (n : Nat) (v : Byte) : (s.write5 r n v).flagN = s.flagN := by
  simp [State.flagN]
@[simp] theorem State.flagH_write5 (s : State) (r : Mbc5) (n : Nat) (v : Byte) : (s.write5 r n v).flagH = s.flagH := by
  simp [State.flagH]
@[simp] theorem State.flagC_write5 (s : State) (r : Mbc5) (n : Nat) (v : Byte) : (s.write5 r n v).flagC = s.flagC := by
  simp [State.flagC]
@[simp] theorem State.reg_romWrite (s : State) (x : Word) (v : Byte) (w : Reg8) : (s.romWrite x v).reg w = s.reg w :=
  State.reg_congr (by simp) (by simp) (by simp) (by simp) (by simp) (by simp) (by simp) w
@[simp] theorem State.hl_romWrite (s : State) (x : Word) (v : Byte) : (s.romWrite x v).hl = s.hl := by
  simp [State.hl]
@[simp] theorem State.bc_romWrite (s : State) (x : Word) (v : Byte) : (s.romWrite x v).bc = s.bc := by
  simp [State.bc]
@[simp] theorem State.de_romWrite (s : State) (x : Word) (v : Byte) : (s.romWrite x v).de = s.de := by
  simp [State.de]
@[simp] theorem State.flagZ_romWrite (s : State) (x : Word) (v : Byte) : (s.romWrite x v).flagZ = s.flagZ := by
  simp [State.flagZ]
@[simp] theorem State.flagN_romWrite (s : State) (x : Word) (v : Byte) : (s.romWrite x v).flagN = s.flagN := by
  simp [State.flagN]
@[simp] theorem State.flagH_romWrite (s : State) (x : Word) (v : Byte) : (s.romWrite x v).flagH = s.flagH := by
  simp [State.flagH]
@[simp] theorem State.flagC_romWrite (s : State) (x : Word) (v : Byte) : (s.romWrite x v).flagC = s.flagC := by
  simp [State.flagC]
@[simp] theorem State.reg_writeByte (s : State) (x : Word) (v : Byte) (w : Reg8) : (s.writeByte x v).reg w = s.reg w :=
  State.reg_congr (by simp) (by simp) (by simp) (by simp) (by simp) (by simp) (by simp) w
@[simp] theorem State.hl_writeByte (s : State) (x : Word) (v : Byte) : (s.writeByte x v).hl = s.hl := by
  simp [State.hl]
@[simp] theorem State.bc_writeByte (s : State) (x : Word) (v : Byte) : (s.writeByte x v).bc = s.bc := by
  simp [State.bc]
@[simp] theorem State.de_writeByte (s : State) (x : Word) (v : Byte) : (s.writeByte x v).de = s.de := by
  simp [State.de]
@[simp] theorem State.flagZ_writeByte (s : State) (x : Word) (v : Byte) : (s.writeByte x v).flagZ = s.flagZ := by
  simp [State.flagZ]
@[simp] theorem State.flagN_writeByte (s : State) (x : Word) (v : Byte) : (s.writeByte x v).flagN = s.flagN := by
  simp [State.flagN]
@[simp] theorem State.flagH_writeByte (s : State) (x : Word) (v : Byte) : (s.writeByte x v).flagH = s.flagH := by
  simp [State.flagH]
@[simp] theorem State.flagC_writeByte (s : State) (x : Word) (v : Byte) : (s.writeByte x v).flagC = s.flagC := by
  simp [State.flagC]
@[simp] theorem State.reg_writeWord (s : State) (x : Word) (v : Word) (w : Reg8) : (s.writeWord x v).reg w = s.reg w :=
  State.reg_congr (by simp) (by simp) (by simp) (by simp) (by simp) (by simp) (by simp) w
@[simp] theorem State.hl_writeWord (s : State) (x : Word) (v : Word) : (s.writeWord x v).hl = s.hl := by
  simp [State.hl]
@[simp] theorem State.bc_writeWord (s : State) (x : Word) (v : Word) : (s.writeWord x v).bc = s.bc := by
  simp [State.bc]
@[simp] theorem State.de_writeWord (s : State) (x : Word) (v : Word) : (s.writeWord x v).de = s.de := by
  simp [State.de]
@[simp] theorem State.flagZ_writeWord (s : State) (x : Word) (v : Word) : (s.writeWord x v).flagZ = s.flagZ := by
  simp [State.flagZ]
@[simp] theorem State.flagN_writeWord (s : State) (x : Word) (v : Word) : (s.writeWord x v).flagN = s.flagN := by
  simp [State.flagN]
@[simp] theorem State.flagH_writeWord (s : State) (x : Word) (v : Word) : (s.writeWord x v).flagH = s.flagH := by
  simp [State.flagH]
@[simp] theorem State.flagC_writeWord (s : State) (x : Word) (v : Word) : (s.writeWord x v).flagC = s.flagC := by
  simp [State.flagC]
@[simp] theorem State.reg_push (s : State) (v : Word) (w : Reg8) : (s.push v).reg w = s.reg w :=
  State.reg_congr (by simp) (by simp) (by simp) (by simp) (by simp) (by simp) (by simp) w
@[simp] theorem State.hl_push (s : State) (v : Word) : (s.push v).hl = s.hl := by
  simp [State.hl]
@[simp] theorem State.bc_push (s : State) (v : Word) : (s.push v).bc = s.bc := by
  simp [State.bc]
@[simp] theorem State.de_push (s : State) (v : Word) : (s.push v).de = s.de := by
  simp [State.de]
@[simp] theorem State.flagZ_push (s : State) (v : Word) : (s.push v).flagZ = s.flagZ := by
  simp [State.flagZ]
@[simp] theorem State.flagN_push (s : State) (v : Word) : (s.push v).flagN = s.flagN := by
  simp [State.flagN]
@[simp] theorem State.flagH_push (s : State) (v : Word) : (s.push v).flagH = s.flagH := by
  simp [State.flagH]
@[simp] theorem State.flagC_push (s : State) (v : Word) : (s.push v).flagC = s.flagC := by
  simp [State.flagC]
@[simp] theorem State.reg_presentRequests (s : State) (w : Reg8) : (s.presentRequests).reg w = s.reg w :=
  State.reg_congr (by simp) (by simp) (by simp) (by simp) (by simp) (by simp) (by simp) w
@[simp] theorem State.hl_presentRequests (s : State) : (s.presentRequests).hl = s.hl := by
  simp [State.hl]
@[simp] theorem State.bc_presentRequests (s : State) : (s.presentRequests).bc = s.bc := by
  simp [State.bc]
@[simp] theorem State.de_presentRequests (s : State) : (s.presentRequests).de = s.de := by
  simp [State.de]
@[simp] theorem State.flagZ_presentRequests (s : State) : (s.presentRequests).flagZ = s.flagZ := by
  simp [State.flagZ]
@[simp] theorem State.flagN_presentRequests (s : State) : (s.presentRequests).flagN = s.flagN := by
  simp [State.flagN]
@[simp] theorem State.flagH_presentRequests (s : State) : (s.presentRequests).flagH = s.flagH := by
  simp [State.flagH]
@[simp] theorem State.flagC_presentRequests (s : State) : (s.presentRequests).flagC = s.flagC := by
  simp [State.flagC]

/-! ### Pairs -/

@[simp] theorem hiByte_joinBytes (x y : Byte) : hiByte (joinBytes x y) = x := by
  apply BitVec.eq_of_getLsbD_eq
  intro i hi
  simp only [hiByte, joinBytes, BitVec.getLsbD_extractLsb', BitVec.getLsbD_append]
  simp [hi]

@[simp] theorem loByte_joinBytes (x y : Byte) : loByte (joinBytes x y) = y := by
  apply BitVec.eq_of_getLsbD_eq
  intro i hi
  simp only [loByte, joinBytes, BitVec.getLsbD_extractLsb', BitVec.getLsbD_append]
  simp [hi]

@[simp] theorem joinBytes_hi_lo (v : Word) : joinBytes (hiByte v) (loByte v) = v := by
  apply BitVec.eq_of_getLsbD_eq
  intro i hi
  simp only [hiByte, loByte, joinBytes, BitVec.getLsbD_extractLsb', BitVec.getLsbD_append]
  by_cases h : i < 8
  · simp [h]
  · have : i - 8 < 8 := by omega
    simp [h, this, show 8 + (i - 8) = i by omega]

@[simp] theorem State.hl_setHL (s : State) (v : Word) : (s.setHL v).hl = v := joinBytes_hi_lo v

@[simp] theorem State.pair_setPair (s : State) (r : Reg16) (v : Word) : (s.setPair r v).pair r = v := by
  cases r <;> first | rfl | exact joinBytes_hi_lo v

/-- The four flags are bits 7 to 4 of F. -/
theorem packFlags_bits (z n h c : Bool) :
    (packFlags z n h c).getLsbD 7 = z ∧ (packFlags z n h c).getLsbD 6 = n ∧ (packFlags z n h c).getLsbD 5 = h ∧
      (packFlags z n h c).getLsbD 4 = c ∧ packFlags z n h c &&& 0xF0#8 = packFlags z n h c ∧
      packFlags z n h c &&& 0x0F#8 = 0#8 := by
  cases z <;> cases n <;> cases h <;> cases c <;> decide

@[simp] theorem State.f_setFlags (s : State) (z n h c : Bool) : (s.setFlags z n h c).f = packFlags z n h c :=
  (packFlags_bits z n h c).2.2.2.2.1

@[simp] theorem State.flagZ_setFlags (s : State) (z n h c : Bool) : (s.setFlags z n h c).flagZ = z := by
  simpa only [State.flagZ, State.f_setFlags] using (packFlags_bits z n h c).1
@[simp] theorem State.flagN_setFlags (s : State) (z n h c : Bool) : (s.setFlags z n h c).flagN = n := by
  simpa only [State.flagN, State.f_setFlags] using (packFlags_bits z n h c).2.1
@[simp] theorem State.flagH_setFlags (s : State) (z n h c : Bool) : (s.setFlags z n h c).flagH = h := by
  simpa only [State.flagH, State.f_setFlags] using (packFlags_bits z n h c).2.2.1
@[simp] theorem State.flagC_setFlags (s : State) (z n h c : Bool) : (s.setFlags z n h c).flagC = c := by
  simpa only [State.flagC, State.f_setFlags] using (packFlags_bits z n h c).2.2.2.1

/-- Every write of F leaves its low nibble zero (R35). -/
theorem State.f_low_setF (s : State) (v : Byte) : (s.setF v).f &&& 0x0F#8 = 0#8 := by
  show v &&& 0xF0#8 &&& 0x0F#8 = 0#8
  rw [BitVec.and_assoc]
  show v &&& 0#8 = 0#8
  simp

/-! ## The address decoder -/

/-- The Active Bank Mapping and the parameters alone decide which cell an address names. -/
theorem State.cellAt_congr {s t : State} (hb : t.bootActive = s.bootActive) (hp : t.par = s.par)
    (h1 : t.rom1Sel = s.rom1Sel) (hv : t.vramSel = s.vramSel) (he : t.eramSel = s.eramSel)
    (hw : t.wramSel = s.wramSel) (y : Word) : t.cellAt y = s.cellAt y := by
  simp [State.cellAt, State.rom0Sel, State.wramLoSel, hb, hp, h1, hv, he, hw]

theorem State.cell_congr {s t : State} (hp : t.par = s.par) (hv : t.vram = s.vram) (he : t.eram = s.eram)
    (hw : t.wram = s.wram) (ho : t.oam = s.oam) (hh : t.hram = s.hram) (y : Store × Nat) : t.cell y = s.cell y := by
  rcases y with ⟨k, n⟩
  cases k <;> simp [State.cell, State.array, hp, hv, he, hw, ho, hh]

/-- What a byte read looks at. -/
theorem State.readByte_congr {s t : State} (hb : t.bootActive = s.bootActive) (hp : t.par = s.par)
    (h1 : t.rom1Sel = s.rom1Sel) (hv : t.vramSel = s.vramSel) (he : t.eramSel = s.eramSel)
    (hw : t.wramSel = s.wramSel) (av : t.vram = s.vram) (ae : t.eram = s.eram) (aw : t.wram = s.wram)
    (ao : t.oam = s.oam) (ah : t.hram = s.hram) (hif : t.ifReg = s.ifReg) (hie : t.ieReg = s.ieReg)
    (hq : t.periphIn = s.periphIn) (hc : t.periphCount = s.periphCount) (y : Word) : t.readByte y = s.readByte y := by
  simp [State.readByte, State.cellAt_congr hb hp h1 hv he hw, State.cell_congr hp av ae aw ao ah, hif, hie, hp,
    State.nextAnswer, hq, hc]

/-- Outside the addresses forwarded to a present peripheral a read does not look at the answers. -/
theorem State.readByte_congr_of_not_forwards {s t : State} (hb : t.bootActive = s.bootActive) (hp : t.par = s.par)
    (h1 : t.rom1Sel = s.rom1Sel) (hv : t.vramSel = s.vramSel) (he : t.eramSel = s.eramSel)
    (hw : t.wramSel = s.wramSel) (av : t.vram = s.vram) (ae : t.eram = s.eram) (aw : t.wram = s.wram)
    (ao : t.oam = s.oam) (ah : t.hram = s.hram) (hif : t.ifReg = s.ifReg) (hie : t.ieReg = s.ieReg) {y : Word}
    (hf : s.forwards y = false) : t.readByte y = s.readByte y := by
  unfold State.forwards at hf
  simp only [State.readByte, State.cellAt_congr hb hp h1 hv he hw, State.cell_congr hp av ae aw ao ah, hif, hie, hp]
  split
  · rfl
  · split <;> simp_all

theorem State.forwards_congr {s t : State} (hp : t.par = s.par) (y : Word) : t.forwards y = s.forwards y := by
  simp [State.forwards, hp]

theorem State.isRam_congr {s t : State} (hp : t.par = s.par) (hm : t.mbc = s.mbc) (y : Word) :
    t.isRam y = s.isRam y := by
  simp [State.isRam, hp, hm]

@[simp] theorem State.cellAt_setReg (s : State) (r : Reg8) (v : Byte) (y : Word) : (s.setReg r v).cellAt y = s.cellAt y :=
  State.cellAt_congr (by simp) (by simp) (by simp) (by simp) (by simp) (by simp) y

@[simp] theorem State.cell_setReg (s : State) (r : Reg8) (v : Byte) (y : Store × Nat) : (s.setReg r v).cell y = s.cell y :=
  State.cell_congr (by simp) (by simp) (by simp) (by simp) (by simp) (by simp) y

@[simp] theorem State.readByte_setReg (s : State) (r : Reg8) (v : Byte) (y : Word) : (s.setReg r v).readByte y = s.readByte y :=
  State.readByte_congr (by simp) (by simp) (by simp) (by simp) (by simp) (by simp) (by simp) (by simp) (by simp) (by simp)
    (by simp) (by simp) (by simp) (by simp) (by simp) y

@[simp] theorem State.cellAt_setF (s : State) (v : Byte) (y : Word) : (s.setF v).cellAt y = s.cellAt y :=
  State.cellAt_congr (by simp) (by simp) (by simp) (by simp) (by simp) (by simp) y

@[simp] theorem State.cell_setF (s : State) (v : Byte) (y : Store × Nat) : (s.setF v).cell y = s.cell y :=
  State.cell_congr (by simp) (by simp) (by simp) (by simp) (by simp) (by simp) y

@[simp] theorem State.readByte_setF (s : State) (v : Byte) (y : Word) : (s.setF v).readByte y = s.readByte y :=
  State.readByte_congr (by simp) (by simp) (by simp) (by simp) (by simp) (by simp) (by simp) (by simp) (by simp) (by simp)
    (by simp) (by simp) (by simp) (by simp) (by simp) y

@[simp] theorem State.cellAt_setFlags (s : State) (z n h c : Bool) (y : Word) : (s.setFlags z n h c).cellAt y = s.cellAt y :=
  State.cellAt_congr (by simp) (by simp) (by simp) (by simp) (by simp) (by simp) y

@[simp] theorem State.cell_setFlags (s : State) (z n h c : Bool) (y : Store × Nat) : (s.setFlags z n h c).cell y = s.cell y :=
  State.cell_congr (by simp) (by simp) (by simp) (by simp) (by simp) (by simp) y

@[simp] theorem State.readByte_setFlags (s : State) (z n h c : Bool) (y : Word) : (s.setFlags z n h c).readByte y = s.readByte y :=
  State.readByte_congr (by simp) (by simp) (by simp) (by simp) (by simp) (by simp) (by simp) (by simp) (by simp) (by simp)
    (by simp) (by simp) (by simp) (by simp) (by simp) y

@[simp] theorem State.cellAt_setHL (s : State) (v : Word) (y : Word) : (s.setHL v).cellAt y = s.cellAt y :=
  State.cellAt_congr (by simp) (by simp) (by simp) (by simp) (by simp) (by simp) y

@[simp] theorem State.cell_setHL (s : State) (v : Word) (y : Store × Nat) : (s.setHL v).cell y = s.cell y :=
  State.cell_congr (by simp) (by simp) (by simp) (by simp) (by simp) (by simp) y

@[simp] theorem State.readByte_setHL (s : State) (v : Word) (y : Word) : (s.setHL v).readByte y = s.readByte y :=
  State.readByte_congr (by simp) (by simp) (by simp) (by simp) (by simp) (by simp) (by simp) (by simp) (by simp) (by simp)
    (by simp) (by simp) (by simp) (by simp) (by simp) y

@[simp] theorem State.cellAt_setPair (s : State) (r : Reg16) (v : Word) (y : Word) : (s.setPair r v).cellAt y = s.cellAt y :=
  State.cellAt_congr (by simp) (by simp) (by simp) (by simp) (by simp) (by simp) y

@[simp] theorem State.cell_setPair (s : State) (r : Reg16) (v : Word) (y : Store × Nat) : (s.setPair r v).cell y = s.cell y :=
  State.cell_congr (by simp) (by simp) (by simp) (by simp) (by simp) (by simp) y

@[simp] theorem State.readByte_setPair (s : State) (r : Reg16) (v : Word) (y : Word) : (s.setPair r v).readByte y = s.readByte y :=
  State.readByte_congr (by simp) (by simp) (by simp) (by simp) (by simp) (by simp) (by simp) (by simp) (by simp) (by simp)
    (by simp) (by simp) (by simp) (by simp) (by simp) y

@[simp] theorem State.cellAt_setStk (s : State) (q : Stk16) (v : Word) (y : Word) : (s.setStk q v).cellAt y = s.cellAt y :=
  State.cellAt_congr (by simp) (by simp) (by simp) (by simp) (by simp) (by simp) y

@[simp] theorem State.cell_setStk (s : State) (q : Stk16) (v : Word) (y : Store × Nat) : (s.setStk q v).cell y = s.cell y :=
  State.cell_congr (by simp) (by simp) (by simp) (by simp) (by simp) (by simp) y

@[simp] theorem State.readByte_setStk (s : State) (q : Stk16) (v : Word) (y : Word) : (s.setStk q v).readByte y = s.readByte y :=
  State.readByte_congr (by simp) (by simp) (by simp) (by simp) (by simp) (by simp) (by simp) (by simp) (by simp) (by simp)
    (by simp) (by simp) (by simp) (by simp) (by simp) y

@[simp] theorem State.cellAt_report (s : State) (n : Nat) (y : Word) : (s.report n).cellAt y = s.cellAt y :=
  State.cellAt_congr (by simp) (by simp) (by simp) (by simp) (by simp) (by simp) y

@[simp] theorem State.cell_report (s : State) (n : Nat) (y : Store × Nat) : (s.report n).cell y = s.cell y :=
  State.cell_congr (by simp) (by simp) (by simp) (by simp) (by simp) (by simp) y

@[simp] theorem State.readByte_report (s : State) (n : Nat) (y : Word) : (s.report n).readByte y = s.readByte y :=
  State.readByte_congr (by simp) (by simp) (by simp) (by simp) (by simp) (by simp) (by simp) (by simp) (by simp) (by simp)
    (by simp) (by simp) (by simp) (by simp) (by simp) y

@[simp] theorem State.cellAt_emit (s : State) (x : Event) (y : Word) : (s.emit x).cellAt y = s.cellAt y :=
  State.cellAt_congr (by simp) (by simp) (by simp) (by simp) (by simp) (by simp) y

@[simp] theorem State.cell_emit (s : State) (x : Event) (y : Store × Nat) : (s.emit x).cell y = s.cell y :=
  State.cell_congr (by simp) (by simp) (by simp) (by simp) (by simp) (by simp) y

@[simp] theorem State.readByte_emit (s : State) (x : Event) (y : Word) : (s.emit x).readByte y = s.readByte y :=
  State.readByte_congr (by simp) (by simp) (by simp) (by simp) (by simp) (by simp) (by simp) (by simp) (by simp) (by simp)
    (by simp) (by simp) (by simp) (by simp) (by simp) y

@[simp] theorem State.cellAt_diag (s : State) (k : DiagKind) (x : Word) (y : Word) : (s.diag k x).cellAt y = s.cellAt y :=
  State.cellAt_congr (by simp) (by simp) (by simp) (by simp) (by simp) (by simp) y

@[simp] theorem State.cell_diag (s : State) (k : DiagKind) (x : Word) (y : Store × Nat) : (s.diag k x).cell y = s.cell y :=
  State.cell_congr (by simp) (by simp) (by simp) (by simp) (by simp) (by simp) y

@[simp] theorem State.readByte_diag (s : State) (k : DiagKind) (x : Word) (y : Word) : (s.diag k x).readByte y = s.readByte y :=
  State.readByte_congr (by simp) (by simp) (by simp) (by simp) (by simp) (by simp) (by simp) (by simp) (by simp) (by simp)
    (by simp) (by simp) (by simp) (by simp) (by simp) y

@[simp] theorem State.cellAt_afterRead (s : State) (x : Word) (y : Word) : (s.afterRead x).cellAt y = s.cellAt y :=
  State.cellAt_congr (by simp) (by simp) (by simp) (by simp) (by simp) (by simp) y

@[simp] theorem State.cell_afterRead (s : State) (x : Word) (y : Store × Nat) : (s.afterRead x).cell y = s.cell y :=
  State.cell_congr (by simp) (by simp) (by simp) (by simp) (by simp) (by simp) y

@[simp] theorem State.cellAt_afterReadWord (s : State) (x : Word) (y : Word) : (s.afterReadWord x).cellAt y = s.cellAt y :=
  State.cellAt_congr (by simp) (by simp) (by simp) (by simp) (by simp) (by simp) y

@[simp] theorem State.cell_afterReadWord (s : State) (x : Word) (y : Store × Nat) : (s.afterReadWord x).cell y = s.cell y :=
  State.cell_congr (by simp) (by simp) (by simp) (by simp) (by simp) (by simp) y

@[simp] theorem State.cellAt_afterPop (s : State) (y : Word) : (s.afterPop).cellAt y = s.cellAt y :=
  State.cellAt_congr (by simp) (by simp) (by simp) (by simp) (by simp) (by simp) y

@[simp] theorem State.cell_afterPop (s : State) (y : Store × Nat) : (s.afterPop).cell y = s.cell y :=
  State.cell_congr (by simp) (by simp) (by simp) (by simp) (by simp) (by simp) y

/-- A byte read changes no byte that a later read gives, but for the answers of the peripherals (R79, R80). -/
theorem State.readByte_afterRead {s : State} (x y : Word) (hf : s.forwards y = false) :
    (s.afterRead x).readByte y = s.readByte y :=
  State.readByte_congr_of_not_forwards (by simp) (by simp) (by simp) (by simp) (by simp) (by simp) (by simp) (by simp)
    (by simp) (by simp) (by simp) (by simp) (by simp) hf

/-- A read of an address that a physical array backs leaves the state as it was. -/
theorem State.afterRead_of_cell {s : State} {x : Word} {y : Store × Nat} (h : s.cellAt x = some y) :
    s.afterRead x = s := by
  unfold State.cellAt at h
  unfold State.afterRead
  split <;> simp_all

/-! ## Stores -/

/-- A state whose five writable arrays are in canonical form. -/
def State.arraysWf (s : State) : Prop :=
  s.vram.wf = true ∧ s.eram.wf = true ∧ s.wram.wf = true ∧ s.oam.wf = true ∧ s.hram.wf = true

theorem Inv.arraysWf {s : State} (h : Inv s) : s.arraysWf := by
  have hv := h.vram
  have he := h.eram
  have hw := h.wram
  have ho := h.oam
  have hh := h.hram
  simp only [arrayOk, Bool.and_eq_true] at hv he hw ho hh
  exact ⟨hv.1, he.1, hw.1, ho.1, hh.1⟩

/-- A cell store changes that one cell (ROM and BOOT cells none). -/
theorem State.cell_setCell {s : State} (hwf : s.arraysWf) (x y : Store × Nat) (v : Byte) :
    (s.setCell x v).cell y = if x = y ∧ x.1 ≠ .rom ∧ x.1 ≠ .boot then v else s.cell y := by
  obtain ⟨hv, he, hw, ho, hh⟩ := hwf
  rcases x with ⟨k, i⟩
  rcases y with ⟨k', j⟩
  cases k <;> cases k' <;>
    simp [State.setCell, State.cell, State.array, Memory.read_write _ _ _ hv, Memory.read_write _ _ _ he,
      Memory.read_write _ _ _ hw, Memory.read_write _ _ _ ho, Memory.read_write _ _ _ hh]

/-- A cell store leaves every other cell, whatever the form of the lists. -/
theorem State.cell_setCell_ne (s : State) {x y : Store × Nat} (v : Byte) (h : x ≠ y) :
    (s.setCell x v).cell y = s.cell y := by
  rcases x with ⟨k, i⟩
  rcases y with ⟨k', j⟩
  cases k <;> cases k' <;> simp [State.setCell, State.cell, State.array] <;>
    exact Memory.read_write_ne _ _ (fun e => h (by rw [e]))

@[simp] theorem State.cellAt_setCell (s : State) (x : Store × Nat) (v : Byte) (y : Word) :
    (s.setCell x v).cellAt y = s.cellAt y :=
  State.cellAt_congr (by simp) (by simp) (by simp) (by simp) (by simp) (by simp) y

/-- What a read gives after a cell store. -/
theorem State.readByte_setCell {s : State} (hwf : s.arraysWf) {x : Store × Nat} (v : Byte)
    (hx : x.1 ≠ .rom ∧ x.1 ≠ .boot) (y : Word) :
    (s.setCell x v).readByte y = if s.cellAt y = some x then v else s.readByte y := by
  unfold State.readByte
  rw [State.cellAt_setCell]
  cases hy : s.cellAt y with
  | some z =>
    simp only [State.cell_setCell hwf, hx, ne_eq, not_false_eq_true, and_self, and_true, Option.some.injEq]
    by_cases hzx : z = x
    · simp [hzx]
    · have : ¬ x = z := fun h => hzx h.symm
      simp [hzx, this]
  | none => simp [State.nextAnswer]

/-- A store through the map leaves what every address of another cell reads. -/
theorem State.readByte_storeAt_ne {s : State} {x y : Word} (v : Byte)
    (h : ∀ c, s.cellAt x = some c → s.cellAt y ≠ some c) : (s.storeAt x v).readByte y = s.readByte y := by
  unfold State.storeAt
  split
  · rename_i c hc
    unfold State.readByte
    rw [State.cellAt_setCell]
    cases hy : s.cellAt y with
    | some z => exact State.cell_setCell_ne s v (fun e => h c hc (e ▸ hy))
    | none => simp [State.nextAnswer]
  · rfl

/-- A store keeps the arrays in canonical form. -/
theorem State.arraysWf_setCell {s : State} (hwf : s.arraysWf) (x : Store × Nat) (v : Byte) :
    (s.setCell x v).arraysWf := by
  obtain ⟨hv, he, hw, ho, hh⟩ := hwf
  rcases x with ⟨k, i⟩
  cases k <;> simp [State.setCell, State.arraysWf, *]

/-- A RAM address names a cell of a writable array. -/
theorem State.cell_of_isRam {s : State} {x : Word} (h : s.isRam x = true) :
    ∃ y, s.cellAt x = some y ∧ y.1 ≠ .rom ∧ y.1 ≠ .boot := by
  unfold State.isRam at h
  unfold State.cellAt
  split at h <;> simp_all

/-- A write to a RAM address is a cell store. -/
theorem State.writeByte_of_isRam {s : State} {x : Word} {y : Store × Nat} (h : s.isRam x = true)
    (hy : s.cellAt x = some y) (v : Byte) : s.writeByte x v = s.setCell y v := by
  unfold State.isRam at h
  unfold State.writeByte
  split at h <;> simp_all [State.storeAt]

/-- A ROM-range write leaves every byte of every array (R100). -/
theorem State.cell_romWrite (s : State) (x : Word) (v : Byte) (y : Store × Nat) :
    (s.romWrite x v).cell y = s.cell y :=
  State.cell_congr (by simp) (by simp) (by simp) (by simp) (by simp) (by simp) y

/-! ## Bank numbers -/

theorem growMask_spec : ∀ (fuel k n : Nat), n ≤ 2 ^ k + fuel → (k = 0 ∨ 2 ^ (k - 1) < n) →
    ∃ j, growMask fuel (2 ^ k - 1) n = 2 ^ j - 1 ∧ n ≤ 2 ^ j ∧ (j = 0 ∨ 2 ^ (j - 1) < n)
  | 0, k, n, h, h' => ⟨k, by simp [growMask], by simpa using h, h'⟩
  | fuel + 1, k, n, h, h' => by
    have hp : 0 < 2 ^ k := Nat.pow_pos (by omega)
    unfold growMask
    by_cases hn : n ≤ 2 ^ k
    · exact ⟨k, by simp only [show n ≤ 2 ^ k - 1 + 1 by omega, if_true], hn, h'⟩
    · have e : 2 * (2 ^ k - 1) + 1 = 2 ^ (k + 1) - 1 := by rw [pow_succ]; omega
      simp only [show ¬ n ≤ 2 ^ k - 1 + 1 by omega, if_false, e]
      refine growMask_spec fuel (k + 1) n ?_ (Or.inr (by simpa using hn))
      rw [pow_succ]
      omega

/-- The mask of a count that is a power of two is the count less one (R102). -/
theorem bankMask_two_pow (k : Nat) : bankMask (2 ^ k) = 2 ^ k - 1 := by
  obtain ⟨j, hj, hle, hlt⟩ := growMask_spec (2 ^ k) 0 (2 ^ k) (by simp) (Or.inl rfl)
  have h1 : k ≤ j := (Nat.pow_le_pow_iff_right (by omega)).1 hle
  have h2 : j ≤ k := by
    rcases hlt with rfl | h
    · omega
    · have := (Nat.pow_lt_pow_iff_right (a := 2) (by omega)).1 h
      omega
  have : j = k := by omega
  subst this
  exact hj

/-- A masked bank number names a bank that is present (R102). -/
theorem bankIndex_lt (number k : Nat) : bankIndex number (2 ^ k) < 2 ^ k := by
  rw [bankIndex, bankMask_two_pow, Nat.and_two_pow_sub_one_eq_mod]
  exact Nat.mod_lt _ (Nat.pow_pos (by omega))

end Sys2Proof.Machine
end

