-- ==== Sys2Proof/Laws/Meanings.lean ====
section
/-!
SUPPORT. The operand operations, calls, returns, the fetch, the start of a step and the interrupt entry: what each
leaves alone, one lemma per field, and the values they set.
-/

namespace Sys2Proof.Machine

/-- A byte read changes the port fields only. -/
theorem State.afterRead_eq (s : State) (x : Word) :
    s.afterRead x = { s with periphIn := (s.afterRead x).periphIn, periphCount := (s.afterRead x).periphCount,
                             events := (s.afterRead x).events } := by
  ext1 <;> simp

/-- `0xFF00 + o` as the spec writes it (R146). -/
theorem highPage_eq (o : Byte) : highPage o = 0xFF00#16 + o.setWidth 16 := by
  have all : ∀ n : Fin 256, highPage (BitVec.ofFin n) = 0xFF00#16 + (BitVec.ofFin n : Byte).setWidth 16 := by
    decide +kernel
  exact all o.toFin


/-! ### Reading an operand -/

@[simp] theorem State.afterLoc_a (s : State) (x : Loc8) : (s.afterLoc x).a = s.a := by cases x <;> simp [State.afterLoc]
@[simp] theorem State.afterLoc_f (s : State) (x : Loc8) : (s.afterLoc x).f = s.f := by cases x <;> simp [State.afterLoc]
@[simp] theorem State.afterLoc_b (s : State) (x : Loc8) : (s.afterLoc x).b = s.b := by cases x <;> simp [State.afterLoc]
@[simp] theorem State.afterLoc_c (s : State) (x : Loc8) : (s.afterLoc x).c = s.c := by cases x <;> simp [State.afterLoc]
@[simp] theorem State.afterLoc_d (s : State) (x : Loc8) : (s.afterLoc x).d = s.d := by cases x <;> simp [State.afterLoc]
@[simp] theorem State.afterLoc_e (s : State) (x : Loc8) : (s.afterLoc x).e = s.e := by cases x <;> simp [State.afterLoc]
@[simp] theorem State.afterLoc_h (s : State) (x : Loc8) : (s.afterLoc x).h = s.h := by cases x <;> simp [State.afterLoc]
@[simp] theorem State.afterLoc_l (s : State) (x : Loc8) : (s.afterLoc x).l = s.l := by cases x <;> simp [State.afterLoc]
@[simp] theorem State.afterLoc_sp (s : State) (x : Loc8) : (s.afterLoc x).sp = s.sp := by cases x <;> simp [State.afterLoc]
@[simp] theorem State.afterLoc_pc (s : State) (x : Loc8) : (s.afterLoc x).pc = s.pc := by cases x <;> simp [State.afterLoc]
@[simp] theorem State.afterLoc_ime (s : State) (x : Loc8) : (s.afterLoc x).ime = s.ime := by cases x <;> simp [State.afterLoc]
@[simp] theorem State.afterLoc_halted (s : State) (x : Loc8) : (s.afterLoc x).halted = s.halted := by cases x <;> simp [State.afterLoc]
@[simp] theorem State.afterLoc_ifReg (s : State) (x : Loc8) : (s.afterLoc x).ifReg = s.ifReg := by cases x <;> simp [State.afterLoc]
@[simp] theorem State.afterLoc_ieReg (s : State) (x : Loc8) : (s.afterLoc x).ieReg = s.ieReg := by cases x <;> simp [State.afterLoc]
@[simp] theorem State.afterLoc_vram (s : State) (x : Loc8) : (s.afterLoc x).vram = s.vram := by cases x <;> simp [State.afterLoc]
@[simp] theorem State.afterLoc_eram (s : State) (x : Loc8) : (s.afterLoc x).eram = s.eram := by cases x <;> simp [State.afterLoc]
@[simp] theorem State.afterLoc_wram (s : State) (x : Loc8) : (s.afterLoc x).wram = s.wram := by cases x <;> simp [State.afterLoc]
@[simp] theorem State.afterLoc_oam (s : State) (x : Loc8) : (s.afterLoc x).oam = s.oam := by cases x <;> simp [State.afterLoc]
@[simp] theorem State.afterLoc_hram (s : State) (x : Loc8) : (s.afterLoc x).hram = s.hram := by cases x <;> simp [State.afterLoc]
@[simp] theorem State.afterLoc_bootActive (s : State) (x : Loc8) : (s.afterLoc x).bootActive = s.bootActive := by cases x <;> simp [State.afterLoc]
@[simp] theorem State.afterLoc_rom1Sel (s : State) (x : Loc8) : (s.afterLoc x).rom1Sel = s.rom1Sel := by cases x <;> simp [State.afterLoc]
@[simp] theorem State.afterLoc_eramSel (s : State) (x : Loc8) : (s.afterLoc x).eramSel = s.eramSel := by cases x <;> simp [State.afterLoc]
@[simp] theorem State.afterLoc_vramSel (s : State) (x : Loc8) : (s.afterLoc x).vramSel = s.vramSel := by cases x <;> simp [State.afterLoc]
@[simp] theorem State.afterLoc_wramSel (s : State) (x : Loc8) : (s.afterLoc x).wramSel = s.wramSel := by cases x <;> simp [State.afterLoc]
@[simp] theorem State.afterLoc_mbc (s : State) (x : Loc8) : (s.afterLoc x).mbc = s.mbc := by cases x <;> simp [State.afterLoc]
@[simp] theorem State.afterLoc_faultLatch (s : State) (x : Loc8) : (s.afterLoc x).faultLatch = s.faultLatch := by cases x <;> simp [State.afterLoc]
@[simp] theorem State.afterLoc_par (s : State) (x : Loc8) : (s.afterLoc x).par = s.par := by cases x <;> simp [State.afterLoc]
@[simp] theorem State.afterLoc_irqIn (s : State) (x : Loc8) : (s.afterLoc x).irqIn = s.irqIn := by cases x <;> simp [State.afterLoc]
@[simp] theorem State.afterLoc_cycles (s : State) (x : Loc8) : (s.afterLoc x).cycles = s.cycles := by cases x <;> simp [State.afterLoc]

/-! ### Reading an accumulator operand -/

@[simp] theorem State.afterSrc_a (s : State) (x : Src8) : (s.afterSrc x).a = s.a := by cases x <;> simp [State.afterSrc]
@[simp] theorem State.afterSrc_f (s : State) (x : Src8) : (s.afterSrc x).f = s.f := by cases x <;> simp [State.afterSrc]
@[simp] theorem State.afterSrc_b (s : State) (x : Src8) : (s.afterSrc x).b = s.b := by cases x <;> simp [State.afterSrc]
@[simp] theorem State.afterSrc_c (s : State) (x : Src8) : (s.afterSrc x).c = s.c := by cases x <;> simp [State.afterSrc]
@[simp] theorem State.afterSrc_d (s : State) (x : Src8) : (s.afterSrc x).d = s.d := by cases x <;> simp [State.afterSrc]
@[simp] theorem State.afterSrc_e (s : State) (x : Src8) : (s.afterSrc x).e = s.e := by cases x <;> simp [State.afterSrc]
@[simp] theorem State.afterSrc_h (s : State) (x : Src8) : (s.afterSrc x).h = s.h := by cases x <;> simp [State.afterSrc]
@[simp] theorem State.afterSrc_l (s : State) (x : Src8) : (s.afterSrc x).l = s.l := by cases x <;> simp [State.afterSrc]
@[simp] theorem State.afterSrc_sp (s : State) (x : Src8) : (s.afterSrc x).sp = s.sp := by cases x <;> simp [State.afterSrc]
@[simp] theorem State.afterSrc_pc (s : State) (x : Src8) : (s.afterSrc x).pc = s.pc := by cases x <;> simp [State.afterSrc]
@[simp] theorem State.afterSrc_ime (s : State) (x : Src8) : (s.afterSrc x).ime = s.ime := by cases x <;> simp [State.afterSrc]
@[simp] theorem State.afterSrc_halted (s : State) (x : Src8) : (s.afterSrc x).halted = s.halted := by cases x <;> simp [State.afterSrc]
@[simp] theorem State.afterSrc_ifReg (s : State) (x : Src8) : (s.afterSrc x).ifReg = s.ifReg := by cases x <;> simp [State.afterSrc]
@[simp] theorem State.afterSrc_ieReg (s : State) (x : Src8) : (s.afterSrc x).ieReg = s.ieReg := by cases x <;> simp [State.afterSrc]
@[simp] theorem State.afterSrc_vram (s : State) (x : Src8) : (s.afterSrc x).vram = s.vram := by cases x <;> simp [State.afterSrc]
@[simp] theorem State.afterSrc_eram (s : State) (x : Src8) : (s.afterSrc x).eram = s.eram := by cases x <;> simp [State.afterSrc]
@[simp] theorem State.afterSrc_wram (s : State) (x : Src8) : (s.afterSrc x).wram = s.wram := by cases x <;> simp [State.afterSrc]
@[simp] theorem State.afterSrc_oam (s : State) (x : Src8) : (s.afterSrc x).oam = s.oam := by cases x <;> simp [State.afterSrc]
@[simp] theorem State.afterSrc_hram (s : State) (x : Src8) : (s.afterSrc x).hram = s.hram := by cases x <;> simp [State.afterSrc]
@[simp] theorem State.afterSrc_bootActive (s : State) (x : Src8) : (s.afterSrc x).bootActive = s.bootActive := by cases x <;> simp [State.afterSrc]
@[simp] theorem State.afterSrc_rom1Sel (s : State) (x : Src8) : (s.afterSrc x).rom1Sel = s.rom1Sel := by cases x <;> simp [State.afterSrc]
@[simp] theorem State.afterSrc_eramSel (s : State) (x : Src8) : (s.afterSrc x).eramSel = s.eramSel := by cases x <;> simp [State.afterSrc]
@[simp] theorem State.afterSrc_vramSel (s : State) (x : Src8) : (s.afterSrc x).vramSel = s.vramSel := by cases x <;> simp [State.afterSrc]
@[simp] theorem State.afterSrc_wramSel (s : State) (x : Src8) : (s.afterSrc x).wramSel = s.wramSel := by cases x <;> simp [State.afterSrc]
@[simp] theorem State.afterSrc_mbc (s : State) (x : Src8) : (s.afterSrc x).mbc = s.mbc := by cases x <;> simp [State.afterSrc]
@[simp] theorem State.afterSrc_faultLatch (s : State) (x : Src8) : (s.afterSrc x).faultLatch = s.faultLatch := by cases x <;> simp [State.afterSrc]
@[simp] theorem State.afterSrc_par (s : State) (x : Src8) : (s.afterSrc x).par = s.par := by cases x <;> simp [State.afterSrc]
@[simp] theorem State.afterSrc_irqIn (s : State) (x : Src8) : (s.afterSrc x).irqIn = s.irqIn := by cases x <;> simp [State.afterSrc]
@[simp] theorem State.afterSrc_cycles (s : State) (x : Src8) : (s.afterSrc x).cycles = s.cycles := by cases x <;> simp [State.afterSrc]

/-! ### Writing an operand -/

@[simp] theorem State.setLoc_f (s : State) (x : Loc8) (v : Byte) : (s.setLoc x v).f = s.f := by cases x <;> simp [State.setLoc]
@[simp] theorem State.setLoc_sp (s : State) (x : Loc8) (v : Byte) : (s.setLoc x v).sp = s.sp := by cases x <;> simp [State.setLoc]
@[simp] theorem State.setLoc_pc (s : State) (x : Loc8) (v : Byte) : (s.setLoc x v).pc = s.pc := by cases x <;> simp [State.setLoc]
@[simp] theorem State.setLoc_ime (s : State) (x : Loc8) (v : Byte) : (s.setLoc x v).ime = s.ime := by cases x <;> simp [State.setLoc]
@[simp] theorem State.setLoc_halted (s : State) (x : Loc8) (v : Byte) : (s.setLoc x v).halted = s.halted := by cases x <;> simp [State.setLoc]
@[simp] theorem State.setLoc_faultLatch (s : State) (x : Loc8) (v : Byte) : (s.setLoc x v).faultLatch = s.faultLatch := by cases x <;> simp [State.setLoc]
@[simp] theorem State.setLoc_par (s : State) (x : Loc8) (v : Byte) : (s.setLoc x v).par = s.par := by cases x <;> simp [State.setLoc]
@[simp] theorem State.setLoc_irqIn (s : State) (x : Loc8) (v : Byte) : (s.setLoc x v).irqIn = s.irqIn := by cases x <;> simp [State.setLoc]
@[simp] theorem State.setLoc_periphIn (s : State) (x : Loc8) (v : Byte) : (s.setLoc x v).periphIn = s.periphIn := by cases x <;> simp [State.setLoc]
@[simp] theorem State.setLoc_periphCount (s : State) (x : Loc8) (v : Byte) : (s.setLoc x v).periphCount = s.periphCount := by cases x <;> simp [State.setLoc]
@[simp] theorem State.setLoc_cycles (s : State) (x : Loc8) (v : Byte) : (s.setLoc x v).cycles = s.cycles := by cases x <;> simp [State.setLoc]

/-! ### The flags of a computation -/

@[simp] theorem State.withFlagsOf_a (s : State) (r : Flagged) : (s.withFlagsOf r).a = s.a := by simp [State.withFlagsOf]
@[simp] theorem State.withFlagsOf_b (s : State) (r : Flagged) : (s.withFlagsOf r).b = s.b := by simp [State.withFlagsOf]
@[simp] theorem State.withFlagsOf_c (s : State) (r : Flagged) : (s.withFlagsOf r).c = s.c := by simp [State.withFlagsOf]
@[simp] theorem State.withFlagsOf_d (s : State) (r : Flagged) : (s.withFlagsOf r).d = s.d := by simp [State.withFlagsOf]
@[simp] theorem State.withFlagsOf_e (s : State) (r : Flagged) : (s.withFlagsOf r).e = s.e := by simp [State.withFlagsOf]
@[simp] theorem State.withFlagsOf_h (s : State) (r : Flagged) : (s.withFlagsOf r).h = s.h := by simp [State.withFlagsOf]
@[simp] theorem State.withFlagsOf_l (s : State) (r : Flagged) : (s.withFlagsOf r).l = s.l := by simp [State.withFlagsOf]
@[simp] theorem State.withFlagsOf_sp (s : State) (r : Flagged) : (s.withFlagsOf r).sp = s.sp := by simp [State.withFlagsOf]
@[simp] theorem State.withFlagsOf_pc (s : State) (r : Flagged) : (s.withFlagsOf r).pc = s.pc := by simp [State.withFlagsOf]
@[simp] theorem State.withFlagsOf_ime (s : State) (r : Flagged) : (s.withFlagsOf r).ime = s.ime := by simp [State.withFlagsOf]
@[simp] theorem State.withFlagsOf_halted (s : State) (r : Flagged) : (s.withFlagsOf r).halted = s.halted := by simp [State.withFlagsOf]
@[simp] theorem State.withFlagsOf_ifReg (s : State) (r : Flagged) : (s.withFlagsOf r).ifReg = s.ifReg := by simp [State.withFlagsOf]
@[simp] theorem State.withFlagsOf_ieReg (s : State) (r : Flagged) : (s.withFlagsOf r).ieReg = s.ieReg := by simp [State.withFlagsOf]
@[simp] theorem State.withFlagsOf_vram (s : State) (r : Flagged) : (s.withFlagsOf r).vram = s.vram := by simp [State.withFlagsOf]
@[simp] theorem State.withFlagsOf_eram (s : State) (r : Flagged) : (s.withFlagsOf r).eram = s.eram := by simp [State.withFlagsOf]
@[simp] theorem State.withFlagsOf_wram (s : State) (r : Flagged) : (s.withFlagsOf r).wram = s.wram := by simp [State.withFlagsOf]
@[simp] theorem State.withFlagsOf_oam (s : State) (r : Flagged) : (s.withFlagsOf r).oam = s.oam := by simp [State.withFlagsOf]
@[simp] theorem State.withFlagsOf_hram (s : State) (r : Flagged) : (s.withFlagsOf r).hram = s.hram := by simp [State.withFlagsOf]
@[simp] theorem State.withFlagsOf_bootActive (s : State) (r : Flagged) : (s.withFlagsOf r).bootActive = s.bootActive := by simp [State.withFlagsOf]
@[simp] theorem State.withFlagsOf_rom1Sel (s : State) (r : Flagged) : (s.withFlagsOf r).rom1Sel = s.rom1Sel := by simp [State.withFlagsOf]
@[simp] theorem State.withFlagsOf_eramSel (s : State) (r : Flagged) : (s.withFlagsOf r).eramSel = s.eramSel := by simp [State.withFlagsOf]
@[simp] theorem State.withFlagsOf_vramSel (s : State) (r : Flagged) : (s.withFlagsOf r).vramSel = s.vramSel := by simp [State.withFlagsOf]
@[simp] theorem State.withFlagsOf_wramSel (s : State) (r : Flagged) : (s.withFlagsOf r).wramSel = s.wramSel := by simp [State.withFlagsOf]
@[simp] theorem State.withFlagsOf_mbc (s : State) (r : Flagged) : (s.withFlagsOf r).mbc = s.mbc := by simp [State.withFlagsOf]
@[simp] theorem State.withFlagsOf_faultLatch (s : State) (r : Flagged) : (s.withFlagsOf r).faultLatch = s.faultLatch := by simp [State.withFlagsOf]
@[simp] theorem State.withFlagsOf_par (s : State) (r : Flagged) : (s.withFlagsOf r).par = s.par := by simp [State.withFlagsOf]
@[simp] theorem State.withFlagsOf_irqIn (s : State) (r : Flagged) : (s.withFlagsOf r).irqIn = s.irqIn := by simp [State.withFlagsOf]
@[simp] theorem State.withFlagsOf_periphIn (s : State) (r : Flagged) : (s.withFlagsOf r).periphIn = s.periphIn := by simp [State.withFlagsOf]
@[simp] theorem State.withFlagsOf_periphCount (s : State) (r : Flagged) : (s.withFlagsOf r).periphCount = s.periphCount := by simp [State.withFlagsOf]
@[simp] theorem State.withFlagsOf_events (s : State) (r : Flagged) : (s.withFlagsOf r).events = s.events := by simp [State.withFlagsOf]
@[simp] theorem State.withFlagsOf_cycles (s : State) (r : Flagged) : (s.withFlagsOf r).cycles = s.cycles := by simp [State.withFlagsOf]

/-! ### A call -/

@[simp] theorem State.call_a (s : State) (x : Word) : (s.call x).a = s.a := by simp [State.call]
@[simp] theorem State.call_f (s : State) (x : Word) : (s.call x).f = s.f := by simp [State.call]
@[simp] theorem State.call_b (s : State) (x : Word) : (s.call x).b = s.b := by simp [State.call]
@[simp] theorem State.call_c (s : State) (x : Word) : (s.call x).c = s.c := by simp [State.call]
@[simp] theorem State.call_d (s : State) (x : Word) : (s.call x).d = s.d := by simp [State.call]
@[simp] theorem State.call_e (s : State) (x : Word) : (s.call x).e = s.e := by simp [State.call]
@[simp] theorem State.call_h (s : State) (x : Word) : (s.call x).h = s.h := by simp [State.call]
@[simp] theorem State.call_l (s : State) (x : Word) : (s.call x).l = s.l := by simp [State.call]
@[simp] theorem State.call_ime (s : State) (x : Word) : (s.call x).ime = s.ime := by simp [State.call]
@[simp] theorem State.call_halted (s : State) (x : Word) : (s.call x).halted = s.halted := by simp [State.call]
@[simp] theorem State.call_faultLatch (s : State) (x : Word) : (s.call x).faultLatch = s.faultLatch := by simp [State.call]
@[simp] theorem State.call_par (s : State) (x : Word) : (s.call x).par = s.par := by simp [State.call]
@[simp] theorem State.call_irqIn (s : State) (x : Word) : (s.call x).irqIn = s.irqIn := by simp [State.call]
@[simp] theorem State.call_periphIn (s : State) (x : Word) : (s.call x).periphIn = s.periphIn := by simp [State.call]
@[simp] theorem State.call_periphCount (s : State) (x : Word) : (s.call x).periphCount = s.periphCount := by simp [State.call]
@[simp] theorem State.call_cycles (s : State) (x : Word) : (s.call x).cycles = s.cycles := by simp [State.call]

/-! ### A return -/

@[simp] theorem State.ret_a (s : State) : (s.ret).a = s.a := by simp [State.ret]
@[simp] theorem State.ret_f (s : State) : (s.ret).f = s.f := by simp [State.ret]
@[simp] theorem State.ret_b (s : State) : (s.ret).b = s.b := by simp [State.ret]
@[simp] theorem State.ret_c (s : State) : (s.ret).c = s.c := by simp [State.ret]
@[simp] theorem State.ret_d (s : State) : (s.ret).d = s.d := by simp [State.ret]
@[simp] theorem State.ret_e (s : State) : (s.ret).e = s.e := by simp [State.ret]
@[simp] theorem State.ret_h (s : State) : (s.ret).h = s.h := by simp [State.ret]
@[simp] theorem State.ret_l (s : State) : (s.ret).l = s.l := by simp [State.ret]
@[simp] theorem State.ret_ime (s : State) : (s.ret).ime = s.ime := by simp [State.ret]
@[simp] theorem State.ret_halted (s : State) : (s.ret).halted = s.halted := by simp [State.ret]
@[simp] theorem State.ret_ifReg (s : State) : (s.ret).ifReg = s.ifReg := by simp [State.ret]
@[simp] theorem State.ret_ieReg (s : State) : (s.ret).ieReg = s.ieReg := by simp [State.ret]
@[simp] theorem State.ret_vram (s : State) : (s.ret).vram = s.vram := by simp [State.ret]
@[simp] theorem State.ret_eram (s : State) : (s.ret).eram = s.eram := by simp [State.ret]
@[simp] theorem State.ret_wram (s : State) : (s.ret).wram = s.wram := by simp [State.ret]
@[simp] theorem State.ret_oam (s : State) : (s.ret).oam = s.oam := by simp [State.ret]
@[simp] theorem State.ret_hram (s : State) : (s.ret).hram = s.hram := by simp [State.ret]
@[simp] theorem State.ret_bootActive (s : State) : (s.ret).bootActive = s.bootActive := by simp [State.ret]
@[simp] theorem State.ret_rom1Sel (s : State) : (s.ret).rom1Sel = s.rom1Sel := by simp [State.ret]
@[simp] theorem State.ret_eramSel (s : State) : (s.ret).eramSel = s.eramSel := by simp [State.ret]
@[simp] theorem State.ret_vramSel (s : State) : (s.ret).vramSel = s.vramSel := by simp [State.ret]
@[simp] theorem State.ret_wramSel (s : State) : (s.ret).wramSel = s.wramSel := by simp [State.ret]
@[simp] theorem State.ret_mbc (s : State) : (s.ret).mbc = s.mbc := by simp [State.ret]
@[simp] theorem State.ret_faultLatch (s : State) : (s.ret).faultLatch = s.faultLatch := by simp [State.ret]
@[simp] theorem State.ret_par (s : State) : (s.ret).par = s.par := by simp [State.ret]
@[simp] theorem State.ret_irqIn (s : State) : (s.ret).irqIn = s.irqIn := by simp [State.ret]
@[simp] theorem State.ret_cycles (s : State) : (s.ret).cycles = s.cycles := by simp [State.ret]

/-! ### A fetched byte -/

@[simp] theorem State.afterFetch_a (s : State) : (s.afterFetch).a = s.a := by simp [State.afterFetch]
@[simp] theorem State.afterFetch_f (s : State) : (s.afterFetch).f = s.f := by simp [State.afterFetch]
@[simp] theorem State.afterFetch_b (s : State) : (s.afterFetch).b = s.b := by simp [State.afterFetch]
@[simp] theorem State.afterFetch_c (s : State) : (s.afterFetch).c = s.c := by simp [State.afterFetch]
@[simp] theorem State.afterFetch_d (s : State) : (s.afterFetch).d = s.d := by simp [State.afterFetch]
@[simp] theorem State.afterFetch_e (s : State) : (s.afterFetch).e = s.e := by simp [State.afterFetch]
@[simp] theorem State.afterFetch_h (s : State) : (s.afterFetch).h = s.h := by simp [State.afterFetch]
@[simp] theorem State.afterFetch_l (s : State) : (s.afterFetch).l = s.l := by simp [State.afterFetch]
@[simp] theorem State.afterFetch_sp (s : State) : (s.afterFetch).sp = s.sp := by simp [State.afterFetch]
@[simp] theorem State.afterFetch_ime (s : State) : (s.afterFetch).ime = s.ime := by simp [State.afterFetch]
@[simp] theorem State.afterFetch_halted (s : State) : (s.afterFetch).halted = s.halted := by simp [State.afterFetch]
@[simp] theorem State.afterFetch_ifReg (s : State) : (s.afterFetch).ifReg = s.ifReg := by simp [State.afterFetch]
@[simp] theorem State.afterFetch_ieReg (s : State) : (s.afterFetch).ieReg = s.ieReg := by simp [State.afterFetch]
@[simp] theorem State.afterFetch_vram (s : State) : (s.afterFetch).vram = s.vram := by simp [State.afterFetch]
@[simp] theorem State.afterFetch_eram (s : State) : (s.afterFetch).eram = s.eram := by simp [State.afterFetch]
@[simp] theorem State.afterFetch_wram (s : State) : (s.afterFetch).wram = s.wram := by simp [State.afterFetch]
@[simp] theorem State.afterFetch_oam (s : State) : (s.afterFetch).oam = s.oam := by simp [State.afterFetch]
@[simp] theorem State.afterFetch_hram (s : State) : (s.afterFetch).hram = s.hram := by simp [State.afterFetch]
@[simp] theorem State.afterFetch_bootActive (s : State) : (s.afterFetch).bootActive = s.bootActive := by simp [State.afterFetch]
@[simp] theorem State.afterFetch_rom1Sel (s : State) : (s.afterFetch).rom1Sel = s.rom1Sel := by simp [State.afterFetch]
@[simp] theorem State.afterFetch_eramSel (s : State) : (s.afterFetch).eramSel = s.eramSel := by simp [State.afterFetch]
@[simp] theorem State.afterFetch_vramSel (s : State) : (s.afterFetch).vramSel = s.vramSel := by simp [State.afterFetch]
@[simp] theorem State.afterFetch_wramSel (s : State) : (s.afterFetch).wramSel = s.wramSel := by simp [State.afterFetch]
@[simp] theorem State.afterFetch_mbc (s : State) : (s.afterFetch).mbc = s.mbc := by simp [State.afterFetch]
@[simp] theorem State.afterFetch_faultLatch (s : State) : (s.afterFetch).faultLatch = s.faultLatch := by simp [State.afterFetch]
@[simp] theorem State.afterFetch_par (s : State) : (s.afterFetch).par = s.par := by simp [State.afterFetch]
@[simp] theorem State.afterFetch_irqIn (s : State) : (s.afterFetch).irqIn = s.irqIn := by simp [State.afterFetch]
@[simp] theorem State.afterFetch_cycles (s : State) : (s.afterFetch).cycles = s.cycles := by simp [State.afterFetch]

/-! ### The start of a step -/

@[simp] theorem State.beginStep_a (s : State) : (s.beginStep).a = s.a := by simp [State.beginStep]
@[simp] theorem State.beginStep_f (s : State) : (s.beginStep).f = s.f := by simp [State.beginStep]
@[simp] theorem State.beginStep_b (s : State) : (s.beginStep).b = s.b := by simp [State.beginStep]
@[simp] theorem State.beginStep_c (s : State) : (s.beginStep).c = s.c := by simp [State.beginStep]
@[simp] theorem State.beginStep_d (s : State) : (s.beginStep).d = s.d := by simp [State.beginStep]
@[simp] theorem State.beginStep_e (s : State) : (s.beginStep).e = s.e := by simp [State.beginStep]
@[simp] theorem State.beginStep_h (s : State) : (s.beginStep).h = s.h := by simp [State.beginStep]
@[simp] theorem State.beginStep_l (s : State) : (s.beginStep).l = s.l := by simp [State.beginStep]
@[simp] theorem State.beginStep_sp (s : State) : (s.beginStep).sp = s.sp := by simp [State.beginStep]
@[simp] theorem State.beginStep_pc (s : State) : (s.beginStep).pc = s.pc := by simp [State.beginStep]
@[simp] theorem State.beginStep_ime (s : State) : (s.beginStep).ime = s.ime := by simp [State.beginStep]
@[simp] theorem State.beginStep_halted (s : State) : (s.beginStep).halted = s.halted := by simp [State.beginStep]
@[simp] theorem State.beginStep_ieReg (s : State) : (s.beginStep).ieReg = s.ieReg := by simp [State.beginStep]
@[simp] theorem State.beginStep_vram (s : State) : (s.beginStep).vram = s.vram := by simp [State.beginStep]
@[simp] theorem State.beginStep_eram (s : State) : (s.beginStep).eram = s.eram := by simp [State.beginStep]
@[simp] theorem State.beginStep_wram (s : State) : (s.beginStep).wram = s.wram := by simp [State.beginStep]
@[simp] theorem State.beginStep_oam (s : State) : (s.beginStep).oam = s.oam := by simp [State.beginStep]
@[simp] theorem State.beginStep_hram (s : State) : (s.beginStep).hram = s.hram := by simp [State.beginStep]
@[simp] theorem State.beginStep_bootActive (s : State) : (s.beginStep).bootActive = s.bootActive := by simp [State.beginStep]
@[simp] theorem State.beginStep_rom1Sel (s : State) : (s.beginStep).rom1Sel = s.rom1Sel := by simp [State.beginStep]
@[simp] theorem State.beginStep_eramSel (s : State) : (s.beginStep).eramSel = s.eramSel := by simp [State.beginStep]
@[simp] theorem State.beginStep_vramSel (s : State) : (s.beginStep).vramSel = s.vramSel := by simp [State.beginStep]
@[simp] theorem State.beginStep_wramSel (s : State) : (s.beginStep).wramSel = s.wramSel := by simp [State.beginStep]
@[simp] theorem State.beginStep_mbc (s : State) : (s.beginStep).mbc = s.mbc := by simp [State.beginStep]
@[simp] theorem State.beginStep_faultLatch (s : State) : (s.beginStep).faultLatch = s.faultLatch := by simp [State.beginStep]
@[simp] theorem State.beginStep_par (s : State) : (s.beginStep).par = s.par := by simp [State.beginStep]
@[simp] theorem State.beginStep_periphIn (s : State) : (s.beginStep).periphIn = s.periphIn := by simp [State.beginStep]
@[simp] theorem State.beginStep_periphCount (s : State) : (s.beginStep).periphCount = s.periphCount := by simp [State.beginStep]

/-! ### The wake -/

@[simp] theorem State.wake_a (s : State) : (s.wake).a = s.a := by unfold State.wake; split <;> rfl
@[simp] theorem State.wake_f (s : State) : (s.wake).f = s.f := by unfold State.wake; split <;> rfl
@[simp] theorem State.wake_b (s : State) : (s.wake).b = s.b := by unfold State.wake; split <;> rfl
@[simp] theorem State.wake_c (s : State) : (s.wake).c = s.c := by unfold State.wake; split <;> rfl
@[simp] theorem State.wake_d (s : State) : (s.wake).d = s.d := by unfold State.wake; split <;> rfl
@[simp] theorem State.wake_e (s : State) : (s.wake).e = s.e := by unfold State.wake; split <;> rfl
@[simp] theorem State.wake_h (s : State) : (s.wake).h = s.h := by unfold State.wake; split <;> rfl
@[simp] theorem State.wake_l (s : State) : (s.wake).l = s.l := by unfold State.wake; split <;> rfl
@[simp] theorem State.wake_sp (s : State) : (s.wake).sp = s.sp := by unfold State.wake; split <;> rfl
@[simp] theorem State.wake_pc (s : State) : (s.wake).pc = s.pc := by unfold State.wake; split <;> rfl
@[simp] theorem State.wake_ime (s : State) : (s.wake).ime = s.ime := by unfold State.wake; split <;> rfl
@[simp] theorem State.wake_ifReg (s : State) : (s.wake).ifReg = s.ifReg := by unfold State.wake; split <;> rfl
@[simp] theorem State.wake_ieReg (s : State) : (s.wake).ieReg = s.ieReg := by unfold State.wake; split <;> rfl
@[simp] theorem State.wake_vram (s : State) : (s.wake).vram = s.vram := by unfold State.wake; split <;> rfl
@[simp] theorem State.wake_eram (s : State) : (s.wake).eram = s.eram := by unfold State.wake; split <;> rfl
@[simp] theorem State.wake_wram (s : State) : (s.wake).wram = s.wram := by unfold State.wake; split <;> rfl
@[simp] theorem State.wake_oam (s : State) : (s.wake).oam = s.oam := by unfold State.wake; split <;> rfl
@[simp] theorem State.wake_hram (s : State) : (s.wake).hram = s.hram := by unfold State.wake; split <;> rfl
@[simp] theorem State.wake_bootActive (s : State) : (s.wake).bootActive = s.bootActive := by unfold State.wake; split <;> rfl
@[simp] theorem State.wake_rom1Sel (s : State) : (s.wake).rom1Sel = s.rom1Sel := by unfold State.wake; split <;> rfl
@[simp] theorem State.wake_eramSel (s : State) : (s.wake).eramSel = s.eramSel := by unfold State.wake; split <;> rfl
@[simp] theorem State.wake_vramSel (s : State) : (s.wake).vramSel = s.vramSel := by unfold State.wake; split <;> rfl
@[simp] theorem State.wake_wramSel (s : State) : (s.wake).wramSel = s.wramSel := by unfold State.wake; split <;> rfl
@[simp] theorem State.wake_mbc (s : State) : (s.wake).mbc = s.mbc := by unfold State.wake; split <;> rfl
@[simp] theorem State.wake_faultLatch (s : State) : (s.wake).faultLatch = s.faultLatch := by unfold State.wake; split <;> rfl
@[simp] theorem State.wake_par (s : State) : (s.wake).par = s.par := by unfold State.wake; split <;> rfl
@[simp] theorem State.wake_irqIn (s : State) : (s.wake).irqIn = s.irqIn := by unfold State.wake; split <;> rfl
@[simp] theorem State.wake_periphIn (s : State) : (s.wake).periphIn = s.periphIn := by unfold State.wake; split <;> rfl
@[simp] theorem State.wake_periphCount (s : State) : (s.wake).periphCount = s.periphCount := by unfold State.wake; split <;> rfl
@[simp] theorem State.wake_events (s : State) : (s.wake).events = s.events := by unfold State.wake; split <;> rfl
@[simp] theorem State.wake_cycles (s : State) : (s.wake).cycles = s.cycles := by unfold State.wake; split <;> rfl

/-! ### An interrupt entry -/

@[simp] theorem State.serviceInterrupt_a (s : State) (n : Nat) : (s.serviceInterrupt n).a = s.a := by simp [State.serviceInterrupt]
@[simp] theorem State.serviceInterrupt_f (s : State) (n : Nat) : (s.serviceInterrupt n).f = s.f := by simp [State.serviceInterrupt]
@[simp] theorem State.serviceInterrupt_b (s : State) (n : Nat) : (s.serviceInterrupt n).b = s.b := by simp [State.serviceInterrupt]
@[simp] theorem State.serviceInterrupt_c (s : State) (n : Nat) : (s.serviceInterrupt n).c = s.c := by simp [State.serviceInterrupt]
@[simp] theorem State.serviceInterrupt_d (s : State) (n : Nat) : (s.serviceInterrupt n).d = s.d := by simp [State.serviceInterrupt]
@[simp] theorem State.serviceInterrupt_e (s : State) (n : Nat) : (s.serviceInterrupt n).e = s.e := by simp [State.serviceInterrupt]
@[simp] theorem State.serviceInterrupt_h (s : State) (n : Nat) : (s.serviceInterrupt n).h = s.h := by simp [State.serviceInterrupt]
@[simp] theorem State.serviceInterrupt_l (s : State) (n : Nat) : (s.serviceInterrupt n).l = s.l := by simp [State.serviceInterrupt]
@[simp] theorem State.serviceInterrupt_faultLatch (s : State) (n : Nat) : (s.serviceInterrupt n).faultLatch = s.faultLatch := by simp [State.serviceInterrupt]
@[simp] theorem State.serviceInterrupt_par (s : State) (n : Nat) : (s.serviceInterrupt n).par = s.par := by simp [State.serviceInterrupt]
@[simp] theorem State.serviceInterrupt_irqIn (s : State) (n : Nat) : (s.serviceInterrupt n).irqIn = s.irqIn := by simp [State.serviceInterrupt]
@[simp] theorem State.serviceInterrupt_periphIn (s : State) (n : Nat) : (s.serviceInterrupt n).periphIn = s.periphIn := by simp [State.serviceInterrupt]
@[simp] theorem State.serviceInterrupt_periphCount (s : State) (n : Nat) : (s.serviceInterrupt n).periphCount = s.periphCount := by simp [State.serviceInterrupt]

/-! ### Views -/

@[simp] theorem State.reg_afterLoc (s : State) (x : Loc8) (w : Reg8) : (s.afterLoc x).reg w = s.reg w :=
  State.reg_congr (by simp) (by simp) (by simp) (by simp) (by simp) (by simp) (by simp) w
@[simp] theorem State.hl_afterLoc (s : State) (x : Loc8) : (s.afterLoc x).hl = s.hl := by
  simp [State.hl]
@[simp] theorem State.bc_afterLoc (s : State) (x : Loc8) : (s.afterLoc x).bc = s.bc := by
  simp [State.bc]
@[simp] theorem State.de_afterLoc (s : State) (x : Loc8) : (s.afterLoc x).de = s.de := by
  simp [State.de]
@[simp] theorem State.flagZ_afterLoc (s : State) (x : Loc8) : (s.afterLoc x).flagZ = s.flagZ := by
  simp [State.flagZ]
@[simp] theorem State.flagN_afterLoc (s : State) (x : Loc8) : (s.afterLoc x).flagN = s.flagN := by
  simp [State.flagN]
@[simp] theorem State.flagH_afterLoc (s : State) (x : Loc8) : (s.afterLoc x).flagH = s.flagH := by
  simp [State.flagH]
@[simp] theorem State.flagC_afterLoc (s : State) (x : Loc8) : (s.afterLoc x).flagC = s.flagC := by
  simp [State.flagC]
@[simp] theorem State.reg_afterSrc (s : State) (x : Src8) (w : Reg8) : (s.afterSrc x).reg w = s.reg w :=
  State.reg_congr (by simp) (by simp) (by simp) (by simp) (by simp) (by simp) (by simp) w
@[simp] theorem State.hl_afterSrc (s : State) (x : Src8) : (s.afterSrc x).hl = s.hl := by
  simp [State.hl]
@[simp] theorem State.bc_afterSrc (s : State) (x : Src8) : (s.afterSrc x).bc = s.bc := by
  simp [State.bc]
@[simp] theorem State.de_afterSrc (s : State) (x : Src8) : (s.afterSrc x).de = s.de := by
  simp [State.de]
@[simp] theorem State.flagZ_afterSrc (s : State) (x : Src8) : (s.afterSrc x).flagZ = s.flagZ := by
  simp [State.flagZ]
@[simp] theorem State.flagN_afterSrc (s : State) (x : Src8) : (s.afterSrc x).flagN = s.flagN := by
  simp [State.flagN]
@[simp] theorem State.flagH_afterSrc (s : State) (x : Src8) : (s.afterSrc x).flagH = s.flagH := by
  simp [State.flagH]
@[simp] theorem State.flagC_afterSrc (s : State) (x : Src8) : (s.afterSrc x).flagC = s.flagC := by
  simp [State.flagC]
@[simp] theorem State.flagZ_setLoc (s : State) (x : Loc8) (v : Byte) : (s.setLoc x v).flagZ = s.flagZ := by
  simp [State.flagZ]
@[simp] theorem State.flagN_setLoc (s : State) (x : Loc8) (v : Byte) : (s.setLoc x v).flagN = s.flagN := by
  simp [State.flagN]
@[simp] theorem State.flagH_setLoc (s : State) (x : Loc8) (v : Byte) : (s.setLoc x v).flagH = s.flagH := by
  simp [State.flagH]
@[simp] theorem State.flagC_setLoc (s : State) (x : Loc8) (v : Byte) : (s.setLoc x v).flagC = s.flagC := by
  simp [State.flagC]
@[simp] theorem State.reg_withFlagsOf (s : State) (r : Flagged) (w : Reg8) : (s.withFlagsOf r).reg w = s.reg w :=
  State.reg_congr (by simp) (by simp) (by simp) (by simp) (by simp) (by simp) (by simp) w
@[simp] theorem State.hl_withFlagsOf (s : State) (r : Flagged) : (s.withFlagsOf r).hl = s.hl := by
  simp [State.hl]
@[simp] theorem State.bc_withFlagsOf (s : State) (r : Flagged) : (s.withFlagsOf r).bc = s.bc := by
  simp [State.bc]
@[simp] theorem State.de_withFlagsOf (s : State) (r : Flagged) : (s.withFlagsOf r).de = s.de := by
  simp [State.de]
@[simp] theorem State.reg_call (s : State) (x : Word) (w : Reg8) : (s.call x).reg w = s.reg w :=
  State.reg_congr (by simp) (by simp) (by simp) (by simp) (by simp) (by simp) (by simp) w
@[simp] theorem State.hl_call (s : State) (x : Word) : (s.call x).hl = s.hl := by
  simp [State.hl]
@[simp] theorem State.bc_call (s : State) (x : Word) : (s.call x).bc = s.bc := by
  simp [State.bc]
@[simp] theorem State.de_call (s : State) (x : Word) : (s.call x).de = s.de := by
  simp [State.de]
@[simp] theorem State.flagZ_call (s : State) (x : Word) : (s.call x).flagZ = s.flagZ := by
  simp [State.flagZ]
@[simp] theorem State.flagN_call (s : State) (x : Word) : (s.call x).flagN = s.flagN := by
  simp [State.flagN]
@[simp] theorem State.flagH_call (s : State) (x : Word) : (s.call x).flagH = s.flagH := by
  simp [State.flagH]
@[simp] theorem State.flagC_call (s : State) (x : Word) : (s.call x).flagC = s.flagC := by
  simp [State.flagC]
@[simp] theorem State.reg_ret (s : State) (w : Reg8) : (s.ret).reg w = s.reg w :=
  State.reg_congr (by simp) (by simp) (by simp) (by simp) (by simp) (by simp) (by simp) w
@[simp] theorem State.hl_ret (s : State) : (s.ret).hl = s.hl := by
  simp [State.hl]
@[simp] theorem State.bc_ret (s : State) : (s.ret).bc = s.bc := by
  simp [State.bc]
@[simp] theorem State.de_ret (s : State) : (s.ret).de = s.de := by
  simp [State.de]
@[simp] theorem State.flagZ_ret (s : State) : (s.ret).flagZ = s.flagZ := by
  simp [State.flagZ]
@[simp] theorem State.flagN_ret (s : State) : (s.ret).flagN = s.flagN := by
  simp [State.flagN]
@[simp] theorem State.flagH_ret (s : State) : (s.ret).flagH = s.flagH := by
  simp [State.flagH]
@[simp] theorem State.flagC_ret (s : State) : (s.ret).flagC = s.flagC := by
  simp [State.flagC]
@[simp] theorem State.reg_afterFetch (s : State) (w : Reg8) : (s.afterFetch).reg w = s.reg w :=
  State.reg_congr (by simp) (by simp) (by simp) (by simp) (by simp) (by simp) (by simp) w
@[simp] theorem State.hl_afterFetch (s : State) : (s.afterFetch).hl = s.hl := by
  simp [State.hl]
@[simp] theorem State.bc_afterFetch (s : State) : (s.afterFetch).bc = s.bc := by
  simp [State.bc]
@[simp] theorem State.de_afterFetch (s : State) : (s.afterFetch).de = s.de := by
  simp [State.de]
@[simp] theorem State.flagZ_afterFetch (s : State) : (s.afterFetch).flagZ = s.flagZ := by
  simp [State.flagZ]
@[simp] theorem State.flagN_afterFetch (s : State) : (s.afterFetch).flagN = s.flagN := by
  simp [State.flagN]
@[simp] theorem State.flagH_afterFetch (s : State) : (s.afterFetch).flagH = s.flagH := by
  simp [State.flagH]
@[simp] theorem State.flagC_afterFetch (s : State) : (s.afterFetch).flagC = s.flagC := by
  simp [State.flagC]
@[simp] theorem State.reg_beginStep (s : State) (w : Reg8) : (s.beginStep).reg w = s.reg w :=
  State.reg_congr (by simp) (by simp) (by simp) (by simp) (by simp) (by simp) (by simp) w
@[simp] theorem State.hl_beginStep (s : State) : (s.beginStep).hl = s.hl := by
  simp [State.hl]
@[simp] theorem State.bc_beginStep (s : State) : (s.beginStep).bc = s.bc := by
  simp [State.bc]
@[simp] theorem State.de_beginStep (s : State) : (s.beginStep).de = s.de := by
  simp [State.de]
@[simp] theorem State.flagZ_beginStep (s : State) : (s.beginStep).flagZ = s.flagZ := by
  simp [State.flagZ]
@[simp] theorem State.flagN_beginStep (s : State) : (s.beginStep).flagN = s.flagN := by
  simp [State.flagN]
@[simp] theorem State.flagH_beginStep (s : State) : (s.beginStep).flagH = s.flagH := by
  simp [State.flagH]
@[simp] theorem State.flagC_beginStep (s : State) : (s.beginStep).flagC = s.flagC := by
  simp [State.flagC]
@[simp] theorem State.reg_wake (s : State) (w : Reg8) : (s.wake).reg w = s.reg w :=
  State.reg_congr (by simp) (by simp) (by simp) (by simp) (by simp) (by simp) (by simp) w
@[simp] theorem State.hl_wake (s : State) : (s.wake).hl = s.hl := by
  simp [State.hl]
@[simp] theorem State.bc_wake (s : State) : (s.wake).bc = s.bc := by
  simp [State.bc]
@[simp] theorem State.de_wake (s : State) : (s.wake).de = s.de := by
  simp [State.de]
@[simp] theorem State.flagZ_wake (s : State) : (s.wake).flagZ = s.flagZ := by
  simp [State.flagZ]
@[simp] theorem State.flagN_wake (s : State) : (s.wake).flagN = s.flagN := by
  simp [State.flagN]
@[simp] theorem State.flagH_wake (s : State) : (s.wake).flagH = s.flagH := by
  simp [State.flagH]
@[simp] theorem State.flagC_wake (s : State) : (s.wake).flagC = s.flagC := by
  simp [State.flagC]
@[simp] theorem State.reg_serviceInterrupt (s : State) (n : Nat) (w : Reg8) : (s.serviceInterrupt n).reg w = s.reg w :=
  State.reg_congr (by simp) (by simp) (by simp) (by simp) (by simp) (by simp) (by simp) w
@[simp] theorem State.hl_serviceInterrupt (s : State) (n : Nat) : (s.serviceInterrupt n).hl = s.hl := by
  simp [State.hl]
@[simp] theorem State.bc_serviceInterrupt (s : State) (n : Nat) : (s.serviceInterrupt n).bc = s.bc := by
  simp [State.bc]
@[simp] theorem State.de_serviceInterrupt (s : State) (n : Nat) : (s.serviceInterrupt n).de = s.de := by
  simp [State.de]
@[simp] theorem State.flagZ_serviceInterrupt (s : State) (n : Nat) : (s.serviceInterrupt n).flagZ = s.flagZ := by
  simp [State.flagZ]
@[simp] theorem State.flagN_serviceInterrupt (s : State) (n : Nat) : (s.serviceInterrupt n).flagN = s.flagN := by
  simp [State.flagN]
@[simp] theorem State.flagH_serviceInterrupt (s : State) (n : Nat) : (s.serviceInterrupt n).flagH = s.flagH := by
  simp [State.flagH]
@[simp] theorem State.flagC_serviceInterrupt (s : State) (n : Nat) : (s.serviceInterrupt n).flagC = s.flagC := by
  simp [State.flagC]
/-! ### What each writes -/

@[simp] theorem State.call_pc (s : State) (x : Word) : (s.call x).pc = x := rfl
@[simp] theorem State.call_sp (s : State) (x : Word) : (s.call x).sp = s.sp - 2 := by simp [State.call]
@[simp] theorem State.ret_pc (s : State) : s.ret.pc = s.popValue := rfl
@[simp] theorem State.ret_sp (s : State) : s.ret.sp = s.sp + 2 := rfl
@[simp] theorem State.serviceInterrupt_pc (s : State) (n : Nat) : (s.serviceInterrupt n).pc = vectorOf n := rfl
@[simp] theorem State.serviceInterrupt_sp (s : State) (n : Nat) : (s.serviceInterrupt n).sp = s.sp - 2 := by
  simp [State.serviceInterrupt]
@[simp] theorem State.serviceInterrupt_ime (s : State) (n : Nat) : (s.serviceInterrupt n).ime = false := by
  simp [State.serviceInterrupt]
@[simp] theorem State.serviceInterrupt_halted (s : State) (n : Nat) : (s.serviceInterrupt n).halted = false := by
  simp [State.serviceInterrupt]
@[simp] theorem State.serviceInterrupt_cycles (s : State) (n : Nat) : (s.serviceInterrupt n).cycles = 16 := rfl
@[simp] theorem State.pair_report (s : State) (n : Nat) (p : Reg16) : (s.report n).pair p = s.pair p := by
  cases p <;> rfl
@[simp] theorem State.stk_report (s : State) (n : Nat) (q : Stk16) : (s.report n).stk q = s.stk q := by
  cases q <;> rfl

end Sys2Proof.Machine
end

