-- ==== Sys2Proof/Laws/Regions.lean ====
section
/-!
SUPPORT. The rows of the address map (R82, R94) as one lemma each, so that no later proof takes `region` apart; and
what `unclaimed` and `portOf` say of it.
-/

namespace Sys2Proof.Machine

theorem region_romLow {a : Word} (h : a.toNat < 0x4000) : region a = .romLow a.toNat := by
  simp only [region, h, if_true]

theorem region_romHigh {a : Word} (h : 0x4000 ≤ a.toNat) (k : a.toNat < 0x8000) :
    region a = .romHigh (a.toNat - 0x4000) := by
  simp (disch := omega) only [region, if_neg, if_pos]

theorem region_vram {a : Word} (h : 0x8000 ≤ a.toNat) (k : a.toNat < 0xA000) :
    region a = .vram (a.toNat - 0x8000) := by
  simp (disch := omega) only [region, if_neg, if_pos]

theorem region_eram {a : Word} (h : 0xA000 ≤ a.toNat) (k : a.toNat < 0xC000) :
    region a = .eram (a.toNat - 0xA000) := by
  simp (disch := omega) only [region, if_neg, if_pos]

theorem region_wramLow {a : Word} (h : 0xC000 ≤ a.toNat) (k : a.toNat < 0xD000) :
    region a = .wramLow (a.toNat - 0xC000) := by
  simp (disch := omega) only [region, if_neg, if_pos]

theorem region_wramHigh {a : Word} (h : 0xD000 ≤ a.toNat) (k : a.toNat < 0xE000) :
    region a = .wramHigh (a.toNat - 0xD000) := by
  simp (disch := omega) only [region, if_neg, if_pos]

theorem region_oam {a : Word} (h : 0xFE00 ≤ a.toNat) (k : a.toNat < 0xFEA0) :
    region a = .oam (a.toNat - 0xFE00) := by
  simp (disch := omega) only [region, if_neg, if_pos]

theorem region_gap {a : Word} (h : 0xFEA0 ≤ a.toNat) (k : a.toNat < 0xFF00) : region a = .unmapped := by
  simp (disch := omega) only [region, if_neg, if_pos]

theorem region_page {a : Word} (h : 0xFF00 ≤ a.toNat) (k : a.toNat < 0xFF80) : region a = registerPage a.toNat := by
  simp (disch := omega) only [region, if_neg, if_pos]

theorem region_hram {a : Word} (h : 0xFF80 ≤ a.toNat) (k : a.toNat < 0xFFFF) :
    region a = .hram (a.toNat - 0xFF80) := by
  simp (disch := omega) only [region, if_neg, if_pos]

/-- The mirror (R91). -/
theorem region_mirror {a : Word} (h : 0xE000 ≤ a.toNat) (k : a.toNat < 0xFE00) :
    region a = region (a - 0x2000#16) := by
  have e : (a - 0x2000#16).toNat = a.toNat - 0x2000 := by bv_omega
  by_cases hk : a.toNat < 0xF000
  · rw [region_wramLow (a := a - 0x2000#16) (by omega) (by omega), e]
    simp (disch := omega) only [region, if_neg, if_pos]
    exact congrArg Region.wramLow (by omega)
  · rw [region_wramHigh (a := a - 0x2000#16) (by omega) (by omega), e]
    simp (disch := omega) only [region, if_neg, if_pos]
    exact congrArg Region.wramHigh (by omega)

theorem region_unclaimed {a : Word} (h : unclaimed a = true) : region a = .unmapped := by
  simp only [unclaimed, decide_eq_true_eq] at h
  rcases h with h | h | h | h | h | h
  · exact region_gap h.1 (by omega)
  all_goals
    rw [region_page (by omega) (by omega)]
    simp (disch := omega) only [registerPage, if_neg, if_pos]

theorem region_portOf {a : Word} {p : Peripheral} (h : portOf a = some p) : region a = .periph p := by
  simp only [portOf] at h
  split at h <;> [skip; split at h <;> [skip; split at h <;> [skip; split at h <;> [skip; split at h]]]]
  all_goals
    first
    | cases h
      rw [region_page (by omega) (by omega)]
      simp (disch := omega) only [registerPage, if_neg, if_pos]
    | cases h

/-- The ranges of the map (R82). -/
theorem address_cases (a : Word) :
    a.toNat < 0x4000 ∨ (0x4000 ≤ a.toNat ∧ a.toNat < 0x8000) ∨ (0x8000 ≤ a.toNat ∧ a.toNat < 0xA000) ∨
    (0xA000 ≤ a.toNat ∧ a.toNat < 0xC000) ∨ (0xC000 ≤ a.toNat ∧ a.toNat < 0xD000) ∨
    (0xD000 ≤ a.toNat ∧ a.toNat < 0xE000) ∨ (0xE000 ≤ a.toNat ∧ a.toNat < 0xFE00) ∨
    (0xFE00 ≤ a.toNat ∧ a.toNat < 0xFEA0) ∨ (0xFEA0 ≤ a.toNat ∧ a.toNat < 0xFF00) ∨
    (0xFF00 ≤ a.toNat ∧ a.toNat < 0xFF80) ∨ (0xFF80 ≤ a.toNat ∧ a.toNat < 0xFFFF) ∨ a = 0xFFFF#16 := by
  bv_omega

/-- What the register page holds: ports, registers and holes, no array. -/
def pageRow : Region → Bool
  | .periph _ | .ifReg | .vramSelect | .bootUnmap | .wramSelect | .unmapped => true
  | _ => false

theorem pageRow_registerPage (n : Nat) : pageRow (registerPage n) = true := by
  simp only [registerPage, apply_ite pageRow]
  simp only [pageRow, ite_self]

/-- The rows of the register page and of the gap, IE's aside, lie between 0xFEA0 and 0xFF7F. -/
theorem range_of_pageRow {a : Word} (h : pageRow (region a) = true) : 0xFEA0 ≤ a.toNat ∧ a.toNat < 0xFF80 := by
  rcases address_cases a with k | k | k | k | k | k | k | k | k | k | k | k
  · rw [region_romLow k] at h; simp [pageRow] at h
  · rw [region_romHigh k.1 k.2] at h; simp [pageRow] at h
  · rw [region_vram k.1 k.2] at h; simp [pageRow] at h
  · rw [region_eram k.1 k.2] at h; simp [pageRow] at h
  · rw [region_wramLow k.1 k.2] at h; simp [pageRow] at h
  · rw [region_wramHigh k.1 k.2] at h; simp [pageRow] at h
  · rw [region_mirror k.1 k.2] at h
    by_cases j : a.toNat < 0xF000
    · rw [region_wramLow (by bv_omega) (by bv_omega)] at h; simp [pageRow] at h
    · rw [region_wramHigh (by bv_omega) (by bv_omega)] at h; simp [pageRow] at h
  · rw [region_oam k.1 k.2] at h; simp [pageRow] at h
  · exact ⟨k.1, by omega⟩
  · exact ⟨by omega, k.2⟩
  · rw [region_hram k.1 k.2] at h; simp [pageRow] at h
  · subst k; cases h

theorem eq_of_registerPage {a : Word} {r : Region} (h : region a = r) (hp : pageRow r = true) (hu : r ≠ .unmapped) :
    registerPage a.toNat = r := by
  obtain ⟨h1, h2⟩ := range_of_pageRow (a := a) (h ▸ hp)
  by_cases k : a.toNat < 0xFF00
  · exact absurd ((region_gap h1 k).symm.trans h) (Ne.symm hu)
  · exact (region_page (by omega) h2).symm.trans h

/-- IF stands at one address (R41). -/
theorem region_eq_ifReg {a : Word} (h : region a = .ifReg) : a = 0xFF0F#16 := by
  have e := eq_of_registerPage h rfl (by simp)
  have : a.toNat = 0xFF0F := by
    by_contra k
    simp only [registerPage, if_neg k] at e
    (repeat' split at e) <;> cases e
  bv_omega

/-- So does the video bank select (R44). -/
theorem region_eq_vramSelect {a : Word} (h : region a = .vramSelect) : a = 0xFF4F#16 := by
  have e := eq_of_registerPage h rfl (by simp)
  have : a.toNat = 0xFF4F := by
    by_contra k
    simp only [registerPage, if_neg k] at e
    (repeat' split at e) <;> cases e
  bv_omega

/-- So does the boot unmap (R43). -/
theorem region_eq_bootUnmap {a : Word} (h : region a = .bootUnmap) : a = 0xFF50#16 := by
  have e := eq_of_registerPage h rfl (by simp)
  have : a.toNat = 0xFF50 := by
    by_contra k
    simp only [registerPage, if_neg k] at e
    (repeat' split at e) <;> cases e
  bv_omega

/-- So does the working RAM bank select (R45). -/
theorem region_eq_wramSelect {a : Word} (h : region a = .wramSelect) : a = 0xFF70#16 := by
  have e := eq_of_registerPage h rfl (by simp)
  have : a.toNat = 0xFF70 := by
    by_contra k
    simp only [registerPage, if_neg k] at e
    (repeat' split at e) <;> cases e
  bv_omega

/-- IE stands at one address (R42). -/
theorem region_eq_ieReg {a : Word} (h : region a = .ieReg) : a = 0xFFFF#16 := by
  rcases address_cases a with k | k | k | k | k | k | k | k | k | k | k | k
  · rw [region_romLow k] at h; cases h
  · rw [region_romHigh k.1 k.2] at h; cases h
  · rw [region_vram k.1 k.2] at h; cases h
  · rw [region_eram k.1 k.2] at h; cases h
  · rw [region_wramLow k.1 k.2] at h; cases h
  · rw [region_wramHigh k.1 k.2] at h; cases h
  · rw [region_mirror k.1 k.2] at h
    by_cases j : a.toNat < 0xF000
    · rw [region_wramLow (by bv_omega) (by bv_omega)] at h; cases h
    · rw [region_wramHigh (by bv_omega) (by bv_omega)] at h; cases h
  · rw [region_oam k.1 k.2] at h; cases h
  · rw [region_gap k.1 k.2] at h; cases h
  · rw [region_page k.1 k.2] at h
    have := pageRow_registerPage a.toNat
    rw [h] at this
    cases this
  · rw [region_hram k.1 k.2] at h; cases h
  · exact k

/-- The rows of the ROM range lie below 0x8000. -/
theorem range_of_rom {a : Word} {o : Nat} (h : region a = .romLow o ∨ region a = .romHigh o) : a.toNat < 0x8000 := by
  rcases address_cases a with k | k | k | k | k | k | k | k | k | k | k | k
  · omega
  · exact k.2
  · rw [region_vram k.1 k.2] at h; simp at h
  · rw [region_eram k.1 k.2] at h; simp at h
  · rw [region_wramLow k.1 k.2] at h; simp at h
  · rw [region_wramHigh k.1 k.2] at h; simp at h
  · rw [region_mirror k.1 k.2] at h
    by_cases j : a.toNat < 0xF000
    · rw [region_wramLow (by bv_omega) (by bv_omega)] at h; simp at h
    · rw [region_wramHigh (by bv_omega) (by bv_omega)] at h; simp at h
  · rw [region_oam k.1 k.2] at h; simp at h
  · rw [region_gap k.1 k.2] at h; simp at h
  · rw [region_page k.1 k.2] at h
    have := pageRow_registerPage a.toNat
    rcases h with h | h <;> (rw [h] at this; cases this)
  · rw [region_hram k.1 k.2] at h; simp at h
  · subst k
    rcases h with h | h <;> cases h

/-- The row of an address and the address agree modulo 32, wherever an array backs it. -/
theorem State.cellAt_mod {s : State} {a : Word} {x : Store × Nat} (h : s.cellAt a = some x) :
    x.2 % 32 = a.toNat % 32 := by
  unfold State.cellAt at h
  rcases address_cases a with k | k | k | k | k | k | k | k | k | k | k | k
  · rw [region_romLow k] at h
    dsimp only at h
    split at h <;> cases h
    · rfl
    · exact congrArg (· % 32) (by simp [State.rom0Sel])
  · rw [region_romHigh k.1 k.2] at h
    cases h
    dsimp only
    omega
  · rw [region_vram k.1 k.2] at h
    cases h
    dsimp only
    omega
  · rw [region_eram k.1 k.2] at h
    dsimp only at h
    split at h <;> cases h
    dsimp only
    omega
  · rw [region_wramLow k.1 k.2] at h
    cases h
    dsimp only
    omega
  · rw [region_wramHigh k.1 k.2] at h
    cases h
    dsimp only
    omega
  · rw [region_mirror k.1 k.2] at h
    have e : (a - 0x2000#16).toNat = a.toNat - 0x2000 := by bv_omega
    by_cases j : a.toNat < 0xF000
    · rw [region_wramLow (by omega) (by omega)] at h
      cases h
      dsimp only
      omega
    · rw [region_wramHigh (by omega) (by omega)] at h
      cases h
      dsimp only
      omega
  · rw [region_oam k.1 k.2] at h
    cases h
    dsimp only
    omega
  · rw [region_gap k.1 k.2] at h
    cases h
  · rw [region_page k.1 k.2] at h
    have := pageRow_registerPage a.toNat
    split at h <;> simp_all [pageRow]
  · rw [region_hram k.1 k.2] at h
    cases h
    dsimp only
    omega
  · subst k
    cases h

/-- Neighbouring addresses never name one cell. -/
theorem State.cellAt_succ_ne {s : State} {a : Word} {x y : Store × Nat} (hx : s.cellAt a = some x)
    (hy : s.cellAt (a + 1) = some y) : x ≠ y := by
  rintro rfl
  have h1 := State.cellAt_mod hx
  have h2 := State.cellAt_mod hy
  bv_omega

/-- A write below 0x8000 is the controller's (R100). -/
theorem State.writeByte_rom {s : State} {a : Word} {v : Byte} (h : a.toNat < 0x8000) :
    s.writeByte a v = s.romWrite a v := by
  unfold State.writeByte
  by_cases k : a.toNat < 0x4000
  · rw [region_romLow k]
  · rw [region_romHigh (by omega) h]

/-- The first store of a word store does not move the RAM cell that the second one names. -/
theorem State.cellAt_writeByte_succ {s : State} {a : Word} {v : Byte} {x : Store × Nat}
    (h : (s.writeByte a v).cellAt (a + 1) = some x) (hx : x.1 ≠ .rom ∧ x.1 ≠ .boot) : s.cellAt (a + 1) = some x := by
  have rom : a.toNat < 0x8000 → s.cellAt (a + 1) = some x := by
    intro k
    by_cases j : a.toNat = 0x7FFF
    · have e : a + 1 = 0x8000#16 := by bv_omega
      rw [State.writeByte_rom k] at h
      rw [e] at h ⊢
      simpa [State.cellAt, region_vram (a := 0x8000#16) (by decide) (by decide)] using h
    · exfalso
      have kb : (a + 1).toNat = a.toNat + 1 := by bv_omega
      unfold State.cellAt at h
      by_cases i : (a + 1).toNat < 0x4000
      · rw [region_romLow i] at h
        dsimp only at h
        split at h <;> (cases h; simp at hx)
      · rw [region_romHigh (by omega) (by omega)] at h
        cases h
        simp at hx
  have page : pageRow (region a) = true → s.cellAt (a + 1) = some x := by
    intro k
    obtain ⟨h1, h2⟩ := range_of_pageRow k
    have kb : (a + 1).toNat = a.toNat + 1 := by bv_omega
    unfold State.cellAt at h ⊢
    by_cases i : (a + 1).toNat < 0xFF80
    · have : pageRow (region (a + 1)) = true := by
        by_cases j : (a + 1).toNat < 0xFF00
        · rw [region_gap (by omega) j]; rfl
        · rw [region_page (by omega) i]; exact pageRow_registerPage _
      split at h <;> simp_all [pageRow]
    · rw [region_hram (by omega) (by omega)] at h ⊢
      exact h
  have keep : (s.writeByte a v).bootActive = s.bootActive → (s.writeByte a v).rom1Sel = s.rom1Sel →
      (s.writeByte a v).eramSel = s.eramSel → (s.writeByte a v).vramSel = s.vramSel →
      (s.writeByte a v).wramSel = s.wramSel → s.cellAt (a + 1) = some x := by
    intro h1 h2 h3 h4 h5
    rw [← h]
    exact (State.cellAt_congr h1 (by simp) h2 h4 h3 h5 _).symm
  cases hr : region a with
  | romLow o => exact rom (range_of_rom (o := o) (.inl hr))
  | romHigh o => exact rom (range_of_rom (o := o) (.inr hr))
  | periph p => exact page (by rw [hr]; rfl)
  | vramSelect => exact page (by rw [hr]; rfl)
  | bootUnmap => exact page (by rw [hr]; rfl)
  | wramSelect => exact page (by rw [hr]; rfl)
  | unmapped => exact page (by rw [hr]; rfl)
  | ifReg => exact page (by rw [hr]; rfl)
  | ieReg => apply keep <;> simp [State.writeByte, hr]
  | eram o =>
    apply keep <;> simp only [State.writeByte, hr] <;> (repeat' split) <;> simp
  | vram o => apply keep <;> simp [State.writeByte, hr]
  | wramLow o => apply keep <;> simp [State.writeByte, hr]
  | wramHigh o => apply keep <;> simp [State.writeByte, hr]
  | oam o => apply keep <;> simp [State.writeByte, hr]
  | hram o => apply keep <;> simp [State.writeByte, hr]

end Sys2Proof.Machine
end

