-- ==== Sys2Proof/Laws/Tables.lean ====
section
/-!
SUPPORT. The tables of Safety.lean (destination registers, flag row, stored addresses, SP and PC writers) at each form
of instruction, so that no proof evaluates an encoding.
-/

namespace Sys2Proof.Machine

/-! ## The prefix row stands for its extended instruction -/

theorem encode_decodeExtended (e : Byte) : encode (decodeExtended e) = [0xCB#8, e] := by
  have all : ∀ n : Fin 256, encode (decodeExtended (BitVec.ofFin n)) = [0xCB#8, BitVec.ofFin n] := by decide +kernel
  exact all e.toFin

theorem encode_prefixCB (e : Byte) : encode (.prefixCB e) = [0xCB#8, e] := rfl

theorem destRegs_decodeExtended (e : Byte) : destRegs (decodeExtended e) = destRegs (.prefixCB e) := by
  simp only [destRegs, encode_decodeExtended, encode_prefixCB]

theorem flagRow_decodeExtended (e : Byte) : flagRow (decodeExtended e) = flagRow (.prefixCB e) := by
  simp only [flagRow, encode_decodeExtended, encode_prefixCB]

/-! ## The tables at each form -/

@[simp] theorem destRegs_ldForm (dst : Reg8) (x : Src8) : destRegs (Instr.ldForm dst x) = [dst] := by
  cases dst <;> (rcases x with r | _ | n <;> try cases r) <;> rfl

@[simp] theorem flagRow_ldForm (dst : Reg8) (x : Src8) :
    flagRow (Instr.ldForm dst x) = FlagRow.none := by
  cases dst <;> (rcases x with r | _ | n <;> try cases r) <;> rfl

@[simp] theorem storedAddresses_ldForm (dst : Reg8) (x : Src8) (s : State) :
    storedAddresses s (Instr.ldForm dst x) = [] := by
  cases dst <;> (rcases x with r | _ | n <;> try cases r) <;> rfl

@[simp] theorem writesSp_ldForm (dst : Reg8) (x : Src8) : writesSp (Instr.ldForm dst x) = false := by
  cases dst <;> (rcases x with r | _ | n <;> try cases r) <;> rfl

@[simp] theorem writesPc_ldForm (dst : Reg8) (x : Src8) : writesPc (Instr.ldForm dst x) = false := by
  cases dst <;> (rcases x with r | _ | n <;> try cases r) <;> rfl

@[simp] theorem destRegs_ldAtHLForm (dst : Reg8) : destRegs (Instr.ldAtHLForm dst) = [] := by
  cases dst <;> rfl

@[simp] theorem flagRow_ldAtHLForm (dst : Reg8) :
    flagRow (Instr.ldAtHLForm dst) = FlagRow.none := by
  cases dst <;> rfl

@[simp] theorem storedAddresses_ldAtHLForm (dst : Reg8) (s : State) :
    storedAddresses s (Instr.ldAtHLForm dst) = [s.hl] := by
  cases dst <;> rfl

@[simp] theorem writesSp_ldAtHLForm (dst : Reg8) : writesSp (Instr.ldAtHLForm dst) = false := by
  cases dst <;> rfl

@[simp] theorem writesPc_ldAtHLForm (dst : Reg8) : writesPc (Instr.ldAtHLForm dst) = false := by
  cases dst <;> rfl

@[simp] theorem destRegs_aluForm (op : AluOp) (x : Src8) : destRegs (Instr.aluForm op x) = (if op = .cp then [] else [.a]) := by
  cases op <;> (rcases x with r | _ | n <;> try cases r) <;> rfl

@[simp] theorem flagRow_aluForm (op : AluOp) (x : Src8) :
    flagRow (Instr.aluForm op x) = (match op with
      | .add | .adc => ⟨.computed, .cleared, .computed, .computed⟩
      | .and => ⟨.computed, .cleared, .isSet, .cleared⟩
      | .xor | .or => ⟨.computed, .cleared, .cleared, .cleared⟩
      | .sub | .sbc | .cp => ⟨.computed, .isSet, .computed, .computed⟩) := by
  cases op <;> (rcases x with r | _ | n <;> try cases r) <;> rfl

@[simp] theorem storedAddresses_aluForm (op : AluOp) (x : Src8) (s : State) :
    storedAddresses s (Instr.aluForm op x) = [] := by
  cases op <;> (rcases x with r | _ | n <;> try cases r) <;> rfl

@[simp] theorem writesSp_aluForm (op : AluOp) (x : Src8) : writesSp (Instr.aluForm op x) = false := by
  cases op <;> (rcases x with r | _ | n <;> try cases r) <;> rfl

@[simp] theorem writesPc_aluForm (op : AluOp) (x : Src8) : writesPc (Instr.aluForm op x) = false := by
  cases op <;> (rcases x with r | _ | n <;> try cases r) <;> rfl

@[simp] theorem destRegs_incForm (x : Loc8) : destRegs (Instr.incForm x) = (match x with | .reg r => [r] | .atHL => []) := by
  (rcases x with r | _ <;> try cases r) <;> rfl

@[simp] theorem flagRow_incForm (x : Loc8) :
    flagRow (Instr.incForm x) = ⟨.computed, .cleared, .computed, .kept⟩ := by
  (rcases x with r | _ <;> try cases r) <;> rfl

@[simp] theorem storedAddresses_incForm (x : Loc8) (s : State) :
    storedAddresses s (Instr.incForm x) = (match x with | .reg _ => [] | .atHL => [s.hl]) := by
  (rcases x with r | _ <;> try cases r) <;> rfl

@[simp] theorem writesSp_incForm (x : Loc8) : writesSp (Instr.incForm x) = false := by
  (rcases x with r | _ <;> try cases r) <;> rfl

@[simp] theorem writesPc_incForm (x : Loc8) : writesPc (Instr.incForm x) = false := by
  (rcases x with r | _ <;> try cases r) <;> rfl

@[simp] theorem destRegs_decForm (x : Loc8) : destRegs (Instr.decForm x) = (match x with | .reg r => [r] | .atHL => []) := by
  (rcases x with r | _ <;> try cases r) <;> rfl

@[simp] theorem flagRow_decForm (x : Loc8) :
    flagRow (Instr.decForm x) = ⟨.computed, .isSet, .computed, .kept⟩ := by
  (rcases x with r | _ <;> try cases r) <;> rfl

@[simp] theorem storedAddresses_decForm (x : Loc8) (s : State) :
    storedAddresses s (Instr.decForm x) = (match x with | .reg _ => [] | .atHL => [s.hl]) := by
  (rcases x with r | _ <;> try cases r) <;> rfl

@[simp] theorem writesSp_decForm (x : Loc8) : writesSp (Instr.decForm x) = false := by
  (rcases x with r | _ <;> try cases r) <;> rfl

@[simp] theorem writesPc_decForm (x : Loc8) : writesPc (Instr.decForm x) = false := by
  (rcases x with r | _ <;> try cases r) <;> rfl

@[simp] theorem destRegs_ldPairForm (p : Reg16) (nn : Word) : destRegs (Instr.ldPairForm p nn) = (match p with | .bc => [.b, .c] | .de => [.d, .e] | .hl => [.h, .l] | .sp => []) := by
  cases p <;> rfl

@[simp] theorem flagRow_ldPairForm (p : Reg16) (nn : Word) :
    flagRow (Instr.ldPairForm p nn) = FlagRow.none := by
  cases p <;> rfl

@[simp] theorem storedAddresses_ldPairForm (p : Reg16) (nn : Word) (s : State) :
    storedAddresses s (Instr.ldPairForm p nn) = [] := by
  cases p <;> rfl

@[simp] theorem writesSp_ldPairForm (p : Reg16) (nn : Word) : writesSp (Instr.ldPairForm p nn) = decide (p = .sp) := by
  cases p <;> rfl

@[simp] theorem writesPc_ldPairForm (p : Reg16) (nn : Word) : writesPc (Instr.ldPairForm p nn) = false := by
  cases p <;> rfl

@[simp] theorem destRegs_addHLForm (p : Reg16) : destRegs (Instr.addHLForm p) = [.h, .l] := by
  cases p <;> rfl

@[simp] theorem flagRow_addHLForm (p : Reg16) :
    flagRow (Instr.addHLForm p) = ⟨.kept, .cleared, .computed, .computed⟩ := by
  cases p <;> rfl

@[simp] theorem storedAddresses_addHLForm (p : Reg16) (s : State) :
    storedAddresses s (Instr.addHLForm p) = [] := by
  cases p <;> rfl

@[simp] theorem writesSp_addHLForm (p : Reg16) : writesSp (Instr.addHLForm p) = false := by
  cases p <;> rfl

@[simp] theorem writesPc_addHLForm (p : Reg16) : writesPc (Instr.addHLForm p) = false := by
  cases p <;> rfl

@[simp] theorem destRegs_incPairForm (p : Reg16) : destRegs (Instr.incPairForm p) = (match p with | .bc => [.b, .c] | .de => [.d, .e] | .hl => [.h, .l] | .sp => []) := by
  cases p <;> rfl

@[simp] theorem flagRow_incPairForm (p : Reg16) :
    flagRow (Instr.incPairForm p) = FlagRow.none := by
  cases p <;> rfl

@[simp] theorem storedAddresses_incPairForm (p : Reg16) (s : State) :
    storedAddresses s (Instr.incPairForm p) = [] := by
  cases p <;> rfl

@[simp] theorem writesSp_incPairForm (p : Reg16) : writesSp (Instr.incPairForm p) = decide (p = .sp) := by
  cases p <;> rfl

@[simp] theorem writesPc_incPairForm (p : Reg16) : writesPc (Instr.incPairForm p) = false := by
  cases p <;> rfl

@[simp] theorem destRegs_decPairForm (p : Reg16) : destRegs (Instr.decPairForm p) = (match p with | .bc => [.b, .c] | .de => [.d, .e] | .hl => [.h, .l] | .sp => []) := by
  cases p <;> rfl

@[simp] theorem flagRow_decPairForm (p : Reg16) :
    flagRow (Instr.decPairForm p) = FlagRow.none := by
  cases p <;> rfl

@[simp] theorem storedAddresses_decPairForm (p : Reg16) (s : State) :
    storedAddresses s (Instr.decPairForm p) = [] := by
  cases p <;> rfl

@[simp] theorem writesSp_decPairForm (p : Reg16) : writesSp (Instr.decPairForm p) = decide (p = .sp) := by
  cases p <;> rfl

@[simp] theorem writesPc_decPairForm (p : Reg16) : writesPc (Instr.decPairForm p) = false := by
  cases p <;> rfl

@[simp] theorem destRegs_pushForm (q : Stk16) : destRegs (Instr.pushForm q) = [] := by
  cases q <;> rfl

@[simp] theorem flagRow_pushForm (q : Stk16) :
    flagRow (Instr.pushForm q) = FlagRow.none := by
  cases q <;> rfl

@[simp] theorem storedAddresses_pushForm (q : Stk16) (s : State) :
    storedAddresses s (Instr.pushForm q) = [s.sp - 2, s.sp - 2 + 1] := by
  cases q <;> rfl

@[simp] theorem writesSp_pushForm (q : Stk16) : writesSp (Instr.pushForm q) = true := by
  cases q <;> rfl

@[simp] theorem writesPc_pushForm (q : Stk16) : writesPc (Instr.pushForm q) = false := by
  cases q <;> rfl

@[simp] theorem destRegs_popForm (q : Stk16) : destRegs (Instr.popForm q) = (match q with | .bc => [.b, .c] | .de => [.d, .e] | .hl => [.h, .l] | .af => [.a]) := by
  cases q <;> rfl

@[simp] theorem flagRow_popForm (q : Stk16) :
    flagRow (Instr.popForm q) = (if q = .af then ⟨.computed, .computed, .computed, .computed⟩ else FlagRow.none) := by
  cases q <;> rfl

@[simp] theorem storedAddresses_popForm (q : Stk16) (s : State) :
    storedAddresses s (Instr.popForm q) = [] := by
  cases q <;> rfl

@[simp] theorem writesSp_popForm (q : Stk16) : writesSp (Instr.popForm q) = true := by
  cases q <;> rfl

@[simp] theorem writesPc_popForm (q : Stk16) : writesPc (Instr.popForm q) = false := by
  cases q <;> rfl

@[simp] theorem destRegs_jrForm (cc : Cond) (v : Byte) : destRegs (Instr.jrForm cc v) = [] := by
  cases cc <;> rfl

@[simp] theorem flagRow_jrForm (cc : Cond) (v : Byte) :
    flagRow (Instr.jrForm cc v) = FlagRow.none := by
  cases cc <;> rfl

@[simp] theorem storedAddresses_jrForm (cc : Cond) (v : Byte) (s : State) :
    storedAddresses s (Instr.jrForm cc v) = [] := by
  cases cc <;> rfl

@[simp] theorem writesSp_jrForm (cc : Cond) (v : Byte) : writesSp (Instr.jrForm cc v) = false := by
  cases cc <;> rfl

@[simp] theorem writesPc_jrForm (cc : Cond) (v : Byte) : writesPc (Instr.jrForm cc v) = true := by
  cases cc <;> rfl

@[simp] theorem destRegs_jpForm (cc : Cond) (nn : Word) : destRegs (Instr.jpForm cc nn) = [] := by
  cases cc <;> rfl

@[simp] theorem flagRow_jpForm (cc : Cond) (nn : Word) :
    flagRow (Instr.jpForm cc nn) = FlagRow.none := by
  cases cc <;> rfl

@[simp] theorem storedAddresses_jpForm (cc : Cond) (nn : Word) (s : State) :
    storedAddresses s (Instr.jpForm cc nn) = [] := by
  cases cc <;> rfl

@[simp] theorem writesSp_jpForm (cc : Cond) (nn : Word) : writesSp (Instr.jpForm cc nn) = false := by
  cases cc <;> rfl

@[simp] theorem writesPc_jpForm (cc : Cond) (nn : Word) : writesPc (Instr.jpForm cc nn) = true := by
  cases cc <;> rfl

@[simp] theorem destRegs_callForm (cc : Cond) (nn : Word) : destRegs (Instr.callForm cc nn) = [] := by
  cases cc <;> rfl

@[simp] theorem flagRow_callForm (cc : Cond) (nn : Word) :
    flagRow (Instr.callForm cc nn) = FlagRow.none := by
  cases cc <;> rfl

@[simp] theorem storedAddresses_callForm (cc : Cond) (nn : Word) (s : State) :
    storedAddresses s (Instr.callForm cc nn) = (if s.cond cc then [s.sp - 2, s.sp - 2 + 1] else []) := by
  cases cc
  · show (if s.flagZ then [] else _) = (if (!s.flagZ) = true then _ else _)
    cases s.flagZ <;> rfl
  · rfl
  · show (if s.flagC then [] else _) = (if (!s.flagC) = true then _ else _)
    cases s.flagC <;> rfl
  · rfl

@[simp] theorem writesSp_callForm (cc : Cond) (nn : Word) : writesSp (Instr.callForm cc nn) = true := by
  cases cc <;> rfl

@[simp] theorem writesPc_callForm (cc : Cond) (nn : Word) : writesPc (Instr.callForm cc nn) = true := by
  cases cc <;> rfl

@[simp] theorem destRegs_retForm (cc : Cond) : destRegs (Instr.retForm cc) = [] := by
  cases cc <;> rfl

@[simp] theorem flagRow_retForm (cc : Cond) :
    flagRow (Instr.retForm cc) = FlagRow.none := by
  cases cc <;> rfl

@[simp] theorem storedAddresses_retForm (cc : Cond) (s : State) :
    storedAddresses s (Instr.retForm cc) = [] := by
  cases cc <;> rfl

@[simp] theorem writesSp_retForm (cc : Cond) : writesSp (Instr.retForm cc) = true := by
  cases cc <;> rfl

@[simp] theorem writesPc_retForm (cc : Cond) : writesPc (Instr.retForm cc) = true := by
  cases cc <;> rfl

@[simp] theorem destRegs_rstForm (k : Index8) : destRegs (Instr.rstForm k) = [] := by
  cases k <;> rfl

@[simp] theorem flagRow_rstForm (k : Index8) :
    flagRow (Instr.rstForm k) = FlagRow.none := by
  cases k <;> rfl

@[simp] theorem storedAddresses_rstForm (k : Index8) (s : State) :
    storedAddresses s (Instr.rstForm k) = [s.sp - 2, s.sp - 2 + 1] := by
  cases k <;> rfl

@[simp] theorem writesSp_rstForm (k : Index8) : writesSp (Instr.rstForm k) = true := by
  cases k <;> rfl

@[simp] theorem writesPc_rstForm (k : Index8) : writesPc (Instr.rstForm k) = true := by
  cases k <;> rfl

@[simp] theorem destRegs_rotForm (k : RotKind) (x : Loc8) : destRegs (Instr.rotForm k x) = (match x with | .reg r => [r] | .atHL => []) := by
  cases k <;> (rcases x with r | _ <;> try cases r) <;> rfl

@[simp] theorem flagRow_rotForm (k : RotKind) (x : Loc8) :
    flagRow (Instr.rotForm k x) = (if k = .swap then ⟨.computed, .cleared, .cleared, .cleared⟩ else ⟨.computed, .cleared, .cleared, .computed⟩) := by
  cases k <;> (rcases x with r | _ <;> try cases r) <;> rfl

@[simp] theorem storedAddresses_rotForm (k : RotKind) (x : Loc8) (s : State) :
    storedAddresses s (Instr.rotForm k x) = (match x with | .reg _ => [] | .atHL => [s.hl]) := by
  cases k <;> (rcases x with r | _ <;> try cases r) <;> rfl

@[simp] theorem writesSp_rotForm (k : RotKind) (x : Loc8) : writesSp (Instr.rotForm k x) = false := by
  cases k <;> (rcases x with r | _ <;> try cases r) <;> rfl

@[simp] theorem writesPc_rotForm (k : RotKind) (x : Loc8) : writesPc (Instr.rotForm k x) = false := by
  cases k <;> (rcases x with r | _ <;> try cases r) <;> rfl

@[simp] theorem destRegs_bitForm (k : Index8) (x : Loc8) : destRegs (Instr.bitForm k x) = [] := by
  cases k <;> (rcases x with r | _ <;> try cases r) <;> rfl

@[simp] theorem flagRow_bitForm (k : Index8) (x : Loc8) :
    flagRow (Instr.bitForm k x) = ⟨.computed, .cleared, .isSet, .kept⟩ := by
  cases k <;> (rcases x with r | _ <;> try cases r) <;> rfl

@[simp] theorem storedAddresses_bitForm (k : Index8) (x : Loc8) (s : State) :
    storedAddresses s (Instr.bitForm k x) = [] := by
  cases k <;> (rcases x with r | _ <;> try cases r) <;> rfl

@[simp] theorem writesSp_bitForm (k : Index8) (x : Loc8) : writesSp (Instr.bitForm k x) = false := by
  cases k <;> (rcases x with r | _ <;> try cases r) <;> rfl

@[simp] theorem writesPc_bitForm (k : Index8) (x : Loc8) : writesPc (Instr.bitForm k x) = false := by
  cases k <;> (rcases x with r | _ <;> try cases r) <;> rfl

@[simp] theorem destRegs_resForm (k : Index8) (x : Loc8) : destRegs (Instr.resForm k x) = (match x with | .reg r => [r] | .atHL => []) := by
  cases k <;> (rcases x with r | _ <;> try cases r) <;> rfl

@[simp] theorem flagRow_resForm (k : Index8) (x : Loc8) :
    flagRow (Instr.resForm k x) = FlagRow.none := by
  cases k <;> (rcases x with r | _ <;> try cases r) <;> rfl

@[simp] theorem storedAddresses_resForm (k : Index8) (x : Loc8) (s : State) :
    storedAddresses s (Instr.resForm k x) = (match x with | .reg _ => [] | .atHL => [s.hl]) := by
  cases k <;> (rcases x with r | _ <;> try cases r) <;> rfl

@[simp] theorem writesSp_resForm (k : Index8) (x : Loc8) : writesSp (Instr.resForm k x) = false := by
  cases k <;> (rcases x with r | _ <;> try cases r) <;> rfl

@[simp] theorem writesPc_resForm (k : Index8) (x : Loc8) : writesPc (Instr.resForm k x) = false := by
  cases k <;> (rcases x with r | _ <;> try cases r) <;> rfl

@[simp] theorem destRegs_setForm (k : Index8) (x : Loc8) : destRegs (Instr.setForm k x) = (match x with | .reg r => [r] | .atHL => []) := by
  cases k <;> (rcases x with r | _ <;> try cases r) <;> rfl

@[simp] theorem flagRow_setForm (k : Index8) (x : Loc8) :
    flagRow (Instr.setForm k x) = FlagRow.none := by
  cases k <;> (rcases x with r | _ <;> try cases r) <;> rfl

@[simp] theorem storedAddresses_setForm (k : Index8) (x : Loc8) (s : State) :
    storedAddresses s (Instr.setForm k x) = (match x with | .reg _ => [] | .atHL => [s.hl]) := by
  cases k <;> (rcases x with r | _ <;> try cases r) <;> rfl

@[simp] theorem writesSp_setForm (k : Index8) (x : Loc8) : writesSp (Instr.setForm k x) = false := by
  cases k <;> (rcases x with r | _ <;> try cases r) <;> rfl

@[simp] theorem writesPc_setForm (k : Index8) (x : Loc8) : writesPc (Instr.setForm k x) = false := by
  cases k <;> (rcases x with r | _ <;> try cases r) <;> rfl

@[simp] theorem tables_nop : destRegs .nop = [] ∧ flagRow .nop = FlagRow.none ∧
    writesSp .nop = false ∧ writesPc .nop = false ∧ ∀ s, storedAddresses s .nop = [] :=
  ⟨rfl, rfl, rfl, rfl, fun _ => rfl⟩

@[simp] theorem tables_ldAtBC_A : destRegs .ldAtBC_A = [] ∧ flagRow .ldAtBC_A = FlagRow.none ∧
    writesSp .ldAtBC_A = false ∧ writesPc .ldAtBC_A = false ∧ ∀ s, storedAddresses s .ldAtBC_A = [s.bc] :=
  ⟨rfl, rfl, rfl, rfl, fun _ => rfl⟩

@[simp] theorem tables_rlca : destRegs .rlca = [.a] ∧ flagRow .rlca = ⟨.cleared, .cleared, .cleared, .computed⟩ ∧
    writesSp .rlca = false ∧ writesPc .rlca = false ∧ ∀ s, storedAddresses s .rlca = [] :=
  ⟨rfl, rfl, rfl, rfl, fun _ => rfl⟩

@[simp] theorem tables_ldAtA16_SP (nn : Word) : destRegs (.ldAtA16_SP nn) = [] ∧ flagRow (.ldAtA16_SP nn) = FlagRow.none ∧
    writesSp (.ldAtA16_SP nn) = false ∧ writesPc (.ldAtA16_SP nn) = false ∧ ∀ s, storedAddresses s (.ldAtA16_SP nn) = [nn, nn + 1] :=
  ⟨rfl, rfl, rfl, rfl, fun _ => rfl⟩

@[simp] theorem tables_ldA_AtBC : destRegs .ldA_AtBC = [.a] ∧ flagRow .ldA_AtBC = FlagRow.none ∧
    writesSp .ldA_AtBC = false ∧ writesPc .ldA_AtBC = false ∧ ∀ s, storedAddresses s .ldA_AtBC = [] :=
  ⟨rfl, rfl, rfl, rfl, fun _ => rfl⟩

@[simp] theorem tables_rrca : destRegs .rrca = [.a] ∧ flagRow .rrca = ⟨.cleared, .cleared, .cleared, .computed⟩ ∧
    writesSp .rrca = false ∧ writesPc .rrca = false ∧ ∀ s, storedAddresses s .rrca = [] :=
  ⟨rfl, rfl, rfl, rfl, fun _ => rfl⟩

@[simp] theorem tables_stop (pad : Byte) : destRegs (.stop pad) = [] ∧ flagRow (.stop pad) = FlagRow.none ∧
    writesSp (.stop pad) = false ∧ writesPc (.stop pad) = false ∧ ∀ s, storedAddresses s (.stop pad) = [] :=
  ⟨rfl, rfl, rfl, rfl, fun _ => rfl⟩

@[simp] theorem tables_ldAtDE_A : destRegs .ldAtDE_A = [] ∧ flagRow .ldAtDE_A = FlagRow.none ∧
    writesSp .ldAtDE_A = false ∧ writesPc .ldAtDE_A = false ∧ ∀ s, storedAddresses s .ldAtDE_A = [s.de] :=
  ⟨rfl, rfl, rfl, rfl, fun _ => rfl⟩

@[simp] theorem tables_rla : destRegs .rla = [.a] ∧ flagRow .rla = ⟨.cleared, .cleared, .cleared, .computed⟩ ∧
    writesSp .rla = false ∧ writesPc .rla = false ∧ ∀ s, storedAddresses s .rla = [] :=
  ⟨rfl, rfl, rfl, rfl, fun _ => rfl⟩

@[simp] theorem tables_jr_r8 (d : Byte) : destRegs (.jr_r8 d) = [] ∧ flagRow (.jr_r8 d) = FlagRow.none ∧
    writesSp (.jr_r8 d) = false ∧ writesPc (.jr_r8 d) = true ∧ ∀ s, storedAddresses s (.jr_r8 d) = [] :=
  ⟨rfl, rfl, rfl, rfl, fun _ => rfl⟩

@[simp] theorem tables_ldA_AtDE : destRegs .ldA_AtDE = [.a] ∧ flagRow .ldA_AtDE = FlagRow.none ∧
    writesSp .ldA_AtDE = false ∧ writesPc .ldA_AtDE = false ∧ ∀ s, storedAddresses s .ldA_AtDE = [] :=
  ⟨rfl, rfl, rfl, rfl, fun _ => rfl⟩

@[simp] theorem tables_rra : destRegs .rra = [.a] ∧ flagRow .rra = ⟨.cleared, .cleared, .cleared, .computed⟩ ∧
    writesSp .rra = false ∧ writesPc .rra = false ∧ ∀ s, storedAddresses s .rra = [] :=
  ⟨rfl, rfl, rfl, rfl, fun _ => rfl⟩

@[simp] theorem tables_ldAtHLInc_A : destRegs .ldAtHLInc_A = [.h, .l] ∧ flagRow .ldAtHLInc_A = FlagRow.none ∧
    writesSp .ldAtHLInc_A = false ∧ writesPc .ldAtHLInc_A = false ∧ ∀ s, storedAddresses s .ldAtHLInc_A = [s.hl] :=
  ⟨rfl, rfl, rfl, rfl, fun _ => rfl⟩

@[simp] theorem tables_daa : destRegs .daa = [.a] ∧ flagRow .daa = ⟨.computed, .kept, .cleared, .computed⟩ ∧
    writesSp .daa = false ∧ writesPc .daa = false ∧ ∀ s, storedAddresses s .daa = [] :=
  ⟨rfl, rfl, rfl, rfl, fun _ => rfl⟩

@[simp] theorem tables_ldA_AtHLInc : destRegs .ldA_AtHLInc = [.a, .h, .l] ∧ flagRow .ldA_AtHLInc = FlagRow.none ∧
    writesSp .ldA_AtHLInc = false ∧ writesPc .ldA_AtHLInc = false ∧ ∀ s, storedAddresses s .ldA_AtHLInc = [] :=
  ⟨rfl, rfl, rfl, rfl, fun _ => rfl⟩

@[simp] theorem tables_cpl : destRegs .cpl = [.a] ∧ flagRow .cpl = ⟨.kept, .isSet, .isSet, .kept⟩ ∧
    writesSp .cpl = false ∧ writesPc .cpl = false ∧ ∀ s, storedAddresses s .cpl = [] :=
  ⟨rfl, rfl, rfl, rfl, fun _ => rfl⟩

@[simp] theorem tables_ldAtHLDec_A : destRegs .ldAtHLDec_A = [.h, .l] ∧ flagRow .ldAtHLDec_A = FlagRow.none ∧
    writesSp .ldAtHLDec_A = false ∧ writesPc .ldAtHLDec_A = false ∧ ∀ s, storedAddresses s .ldAtHLDec_A = [s.hl] :=
  ⟨rfl, rfl, rfl, rfl, fun _ => rfl⟩

@[simp] theorem tables_ldAtHL_d8 (n : Byte) : destRegs (.ldAtHL_d8 n) = [] ∧ flagRow (.ldAtHL_d8 n) = FlagRow.none ∧
    writesSp (.ldAtHL_d8 n) = false ∧ writesPc (.ldAtHL_d8 n) = false ∧ ∀ s, storedAddresses s (.ldAtHL_d8 n) = [s.hl] :=
  ⟨rfl, rfl, rfl, rfl, fun _ => rfl⟩

@[simp] theorem tables_scf : destRegs .scf = [] ∧ flagRow .scf = ⟨.kept, .cleared, .cleared, .isSet⟩ ∧
    writesSp .scf = false ∧ writesPc .scf = false ∧ ∀ s, storedAddresses s .scf = [] :=
  ⟨rfl, rfl, rfl, rfl, fun _ => rfl⟩

@[simp] theorem tables_ldA_AtHLDec : destRegs .ldA_AtHLDec = [.a, .h, .l] ∧ flagRow .ldA_AtHLDec = FlagRow.none ∧
    writesSp .ldA_AtHLDec = false ∧ writesPc .ldA_AtHLDec = false ∧ ∀ s, storedAddresses s .ldA_AtHLDec = [] :=
  ⟨rfl, rfl, rfl, rfl, fun _ => rfl⟩

@[simp] theorem tables_ccf : destRegs .ccf = [] ∧ flagRow .ccf = ⟨.kept, .cleared, .cleared, .computed⟩ ∧
    writesSp .ccf = false ∧ writesPc .ccf = false ∧ ∀ s, storedAddresses s .ccf = [] :=
  ⟨rfl, rfl, rfl, rfl, fun _ => rfl⟩

@[simp] theorem tables_halt : destRegs .halt = [] ∧ flagRow .halt = FlagRow.none ∧
    writesSp .halt = false ∧ writesPc .halt = false ∧ ∀ s, storedAddresses s .halt = [] :=
  ⟨rfl, rfl, rfl, rfl, fun _ => rfl⟩

@[simp] theorem tables_jp_a16 (nn : Word) : destRegs (.jp_a16 nn) = [] ∧ flagRow (.jp_a16 nn) = FlagRow.none ∧
    writesSp (.jp_a16 nn) = false ∧ writesPc (.jp_a16 nn) = true ∧ ∀ s, storedAddresses s (.jp_a16 nn) = [] :=
  ⟨rfl, rfl, rfl, rfl, fun _ => rfl⟩

@[simp] theorem tables_ret : destRegs .ret = [] ∧ flagRow .ret = FlagRow.none ∧
    writesSp .ret = true ∧ writesPc .ret = true ∧ ∀ s, storedAddresses s .ret = [] :=
  ⟨rfl, rfl, rfl, rfl, fun _ => rfl⟩

@[simp] theorem tables_call_a16 (nn : Word) : destRegs (.call_a16 nn) = [] ∧ flagRow (.call_a16 nn) = FlagRow.none ∧
    writesSp (.call_a16 nn) = true ∧ writesPc (.call_a16 nn) = true ∧ ∀ s, storedAddresses s (.call_a16 nn) = [s.sp - 2, s.sp - 2 + 1] :=
  ⟨rfl, rfl, rfl, rfl, fun _ => rfl⟩

@[simp] theorem tables_reti : destRegs .reti = [] ∧ flagRow .reti = FlagRow.none ∧
    writesSp .reti = true ∧ writesPc .reti = true ∧ ∀ s, storedAddresses s .reti = [] :=
  ⟨rfl, rfl, rfl, rfl, fun _ => rfl⟩

@[simp] theorem tables_ldhAtA8_A (o : Byte) : destRegs (.ldhAtA8_A o) = [] ∧ flagRow (.ldhAtA8_A o) = FlagRow.none ∧
    writesSp (.ldhAtA8_A o) = false ∧ writesPc (.ldhAtA8_A o) = false ∧ ∀ s, storedAddresses s (.ldhAtA8_A o) = [highPage o] :=
  ⟨rfl, rfl, rfl, rfl, fun _ => rfl⟩

@[simp] theorem tables_ldAtC_A : destRegs .ldAtC_A = [] ∧ flagRow .ldAtC_A = FlagRow.none ∧
    writesSp .ldAtC_A = false ∧ writesPc .ldAtC_A = false ∧ ∀ s, storedAddresses s .ldAtC_A = [highPage s.c] :=
  ⟨rfl, rfl, rfl, rfl, fun _ => rfl⟩

@[simp] theorem tables_addSP_r8 (d : Byte) : destRegs (.addSP_r8 d) = [] ∧ flagRow (.addSP_r8 d) = ⟨.cleared, .cleared, .computed, .computed⟩ ∧
    writesSp (.addSP_r8 d) = true ∧ writesPc (.addSP_r8 d) = false ∧ ∀ s, storedAddresses s (.addSP_r8 d) = [] :=
  ⟨rfl, rfl, rfl, rfl, fun _ => rfl⟩

@[simp] theorem tables_jpHL : destRegs .jpHL = [] ∧ flagRow .jpHL = FlagRow.none ∧
    writesSp .jpHL = false ∧ writesPc .jpHL = true ∧ ∀ s, storedAddresses s .jpHL = [] :=
  ⟨rfl, rfl, rfl, rfl, fun _ => rfl⟩

@[simp] theorem tables_ldAtA16_A (nn : Word) : destRegs (.ldAtA16_A nn) = [] ∧ flagRow (.ldAtA16_A nn) = FlagRow.none ∧
    writesSp (.ldAtA16_A nn) = false ∧ writesPc (.ldAtA16_A nn) = false ∧ ∀ s, storedAddresses s (.ldAtA16_A nn) = [nn] :=
  ⟨rfl, rfl, rfl, rfl, fun _ => rfl⟩

@[simp] theorem tables_ldhA_AtA8 (o : Byte) : destRegs (.ldhA_AtA8 o) = [.a] ∧ flagRow (.ldhA_AtA8 o) = FlagRow.none ∧
    writesSp (.ldhA_AtA8 o) = false ∧ writesPc (.ldhA_AtA8 o) = false ∧ ∀ s, storedAddresses s (.ldhA_AtA8 o) = [] :=
  ⟨rfl, rfl, rfl, rfl, fun _ => rfl⟩

@[simp] theorem tables_ldA_AtC : destRegs .ldA_AtC = [.a] ∧ flagRow .ldA_AtC = FlagRow.none ∧
    writesSp .ldA_AtC = false ∧ writesPc .ldA_AtC = false ∧ ∀ s, storedAddresses s .ldA_AtC = [] :=
  ⟨rfl, rfl, rfl, rfl, fun _ => rfl⟩

@[simp] theorem tables_di : destRegs .di = [] ∧ flagRow .di = FlagRow.none ∧
    writesSp .di = false ∧ writesPc .di = false ∧ ∀ s, storedAddresses s .di = [] :=
  ⟨rfl, rfl, rfl, rfl, fun _ => rfl⟩

@[simp] theorem tables_ldHL_SPr8 (d : Byte) : destRegs (.ldHL_SPr8 d) = [.h, .l] ∧ flagRow (.ldHL_SPr8 d) = ⟨.cleared, .cleared, .computed, .computed⟩ ∧
    writesSp (.ldHL_SPr8 d) = false ∧ writesPc (.ldHL_SPr8 d) = false ∧ ∀ s, storedAddresses s (.ldHL_SPr8 d) = [] :=
  ⟨rfl, rfl, rfl, rfl, fun _ => rfl⟩

@[simp] theorem tables_ldSP_HL : destRegs .ldSP_HL = [] ∧ flagRow .ldSP_HL = FlagRow.none ∧
    writesSp .ldSP_HL = true ∧ writesPc .ldSP_HL = false ∧ ∀ s, storedAddresses s .ldSP_HL = [] :=
  ⟨rfl, rfl, rfl, rfl, fun _ => rfl⟩

@[simp] theorem tables_ldA_AtA16 (nn : Word) : destRegs (.ldA_AtA16 nn) = [.a] ∧ flagRow (.ldA_AtA16 nn) = FlagRow.none ∧
    writesSp (.ldA_AtA16 nn) = false ∧ writesPc (.ldA_AtA16 nn) = false ∧ ∀ s, storedAddresses s (.ldA_AtA16 nn) = [] :=
  ⟨rfl, rfl, rfl, rfl, fun _ => rfl⟩

@[simp] theorem tables_ei : destRegs .ei = [] ∧ flagRow .ei = FlagRow.none ∧
    writesSp .ei = false ∧ writesPc .ei = false ∧ ∀ s, storedAddresses s .ei = [] :=
  ⟨rfl, rfl, rfl, rfl, fun _ => rfl⟩

end Sys2Proof.Machine
end

