-- ==== Sys2Proof/Laws/Stores.lean ====
section
/-!
SUPPORT. What an instruction can do to memory, said once: its effect on the arrays, IF, IE, the mapping and the bank
controller is that of writing some bytes at its stored addresses in order, and of nothing else (`exec_stores`). Frames
and invariants over all instructions are proved about byte writes and carried over by it.
-/

namespace Sys2Proof.Machine

/-- Two states with the same memory side: parameters, arrays, IF, IE, mapping and controller. -/
structure SameMemory (s t : State) : Prop where
  par : s.par = t.par
  ifReg : s.ifReg = t.ifReg
  ieReg : s.ieReg = t.ieReg
  vram : s.vram = t.vram
  eram : s.eram = t.eram
  wram : s.wram = t.wram
  oam : s.oam = t.oam
  hram : s.hram = t.hram
  bootActive : s.bootActive = t.bootActive
  rom1Sel : s.rom1Sel = t.rom1Sel
  eramSel : s.eramSel = t.eramSel
  vramSel : s.vramSel = t.vramSel
  wramSel : s.wramSel = t.wramSel
  mbc : s.mbc = t.mbc

theorem SameMemory.refl (s : State) : SameMemory s s := by constructor <;> rfl

theorem SameMemory.symm {s t : State} (h : SameMemory s t) : SameMemory t s := by
  obtain ⟨h1, h2, h3, h4, h5, h6, h7, h8, h9, h10, h11, h12, h13, h14⟩ := h
  constructor <;> simp [*]

theorem SameMemory.trans {s t u : State} (h : SameMemory s t) (k : SameMemory t u) : SameMemory s u := by
  obtain ⟨h1, h2, h3, h4, h5, h6, h7, h8, h9, h10, h11, h12, h13, h14⟩ := h
  obtain ⟨k1, k2, k3, k4, k5, k6, k7, k8, k9, k10, k11, k12, k13, k14⟩ := k
  constructor <;> simp [*]

theorem SameMemory.cellAt {s t : State} (h : SameMemory s t) (y : Word) : s.cellAt y = t.cellAt y :=
  State.cellAt_congr h.bootActive h.par h.rom1Sel h.vramSel h.eramSel h.wramSel y

theorem SameMemory.cell {s t : State} (h : SameMemory s t) (y : Store × Nat) : s.cell y = t.cell y :=
  State.cell_congr h.par h.vram h.eram h.wram h.oam h.hram y

theorem SameMemory.readByte {s t : State} (h : SameMemory s t) {y : Word} (hy : t.forwards y = false) :
    s.readByte y = t.readByte y :=
  State.readByte_congr_of_not_forwards h.bootActive h.par h.rom1Sel h.vramSel h.eramSel h.wramSel h.vram h.eram h.wram
    h.oam h.hram h.ifReg h.ieReg hy

/-- A read leaves the memory side. -/
theorem SameMemory.afterRead (s : State) (x : Word) : SameMemory (s.afterRead x) s := by constructor <;> simp

theorem SameMemory.setCell {s t : State} (h : SameMemory s t) (x : Store × Nat) (v : Byte) :
    SameMemory (s.setCell x v) (t.setCell x v) := by
  obtain ⟨h1, h2, h3, h4, h5, h6, h7, h8, h9, h10, h11, h12, h13, h14⟩ := h
  rcases x with ⟨k, n⟩
  cases k <;> constructor <;> simp [State.setCell, *]

theorem SameMemory.storeAt {s t : State} (h : SameMemory s t) (x : Word) (v : Byte) :
    SameMemory (s.storeAt x v) (t.storeAt x v) := by
  unfold State.storeAt
  rw [h.cellAt x]
  split
  · exact h.setCell _ v
  · exact h

theorem SameMemory.romWrite {s t : State} (h : SameMemory s t) (x : Word) (v : Byte) :
    SameMemory (s.romWrite x v) (t.romWrite x v) := by
  obtain ⟨h1, h2, h3, h4, h5, h6, h7, h8, h9, h10, h11, h12, h13, h14⟩ := h
  unfold State.romWrite
  rw [h14]
  split
  · constructor <;> simp [*]
  · unfold State.write1 State.remap1 State.eramIndex State.saveOnDisable
    rw [h1]
    (repeat' split) <;> constructor <;> simp [*]
  · unfold State.write3 State.eramIndex State.saveOnDisable
    rw [h1]
    (repeat' split) <;> constructor <;> simp [*]
  · unfold State.write5 State.remap5 State.eramIndex State.saveOnDisable
    rw [h1]
    (repeat' split) <;> constructor <;> simp [*]

/-- What a byte write does to the memory side depends on the memory side alone. -/
theorem SameMemory.writeByte {s t : State} (h : SameMemory s t) (x : Word) (v : Byte) :
    SameMemory (s.writeByte x v) (t.writeByte x v) := by
  have hs := h.storeAt x v
  have hr := h.romWrite x v
  obtain ⟨h1, h2, h3, h4, h5, h6, h7, h8, h9, h10, h11, h12, h13, h14⟩ := h
  unfold State.writeByte
  rw [h1, h14]
  (repeat' split) <;> first | exact hs | exact hr | (constructor <;> simp [*])

/-- Byte writes in order. -/
def State.writeAll (s : State) (ws : List (Word × Byte)) : State := ws.foldl (fun u w => u.writeByte w.1 w.2) s

@[simp] theorem State.writeAll_nil (s : State) : s.writeAll [] = s := rfl

@[simp] theorem State.writeAll_cons (s : State) (w : Word × Byte) (ws : List (Word × Byte)) :
    s.writeAll (w :: ws) = (s.writeByte w.1 w.2).writeAll ws := rfl

theorem storedAddresses_undefined {i : Instr} (hi : i ∈ undefinedInstrs) (s : State) : storedAddresses s i = [] := by
  simp only [undefinedInstrs, List.mem_cons, List.not_mem_nil, or_false] at hi
  rcases hi with rfl | rfl | rfl | rfl | rfl | rfl | rfl | rfl | rfl | rfl | rfl <;> rfl

theorem storedAddresses_decodeExtended (e : Byte) (s : State) :
    storedAddresses s (decodeExtended e) = storedAddresses s (.prefixCB e) := by
  have all : ∀ n : Fin 256,
      storedAddresses s (decodeExtended (BitVec.ofFin n)) = storedAddresses s (.prefixCB (BitVec.ofFin n)) := by
    intro n
    fin_cases n <;> rfl
  exact all e.toFin

/-- The memory side of `t` is that of `s` after byte writes at the stored addresses of `i`, in order. -/
def Stores (s : State) (i : Instr) (t : State) : Prop :=
  ∃ ws : List (Word × Byte), ws.map Prod.fst = storedAddresses s i ∧ SameMemory t (s.writeAll ws)

theorem Stores.none {s t : State} {i : Instr} (e : storedAddresses s i = []) (m : SameMemory t s) : Stores s i t :=
  ⟨[], e.symm, m⟩

theorem Stores.one {s t : State} {i : Instr} {x : Word} {v : Byte} (e : storedAddresses s i = [x])
    (m : SameMemory t (s.writeByte x v)) : Stores s i t :=
  ⟨[(x, v)], e.symm, m⟩

theorem Stores.two {s t : State} {i : Instr} {x y : Word} {v w : Byte} (e : storedAddresses s i = [x, y])
    (m : SameMemory t ((s.writeByte x v).writeByte y w)) : Stores s i t :=
  ⟨[(x, v), (y, w)], e.symm, m⟩

theorem SameMemory.push (s : State) (v : Word) :
    SameMemory (s.push v) ((s.writeByte (s.sp - 2) (loByte v)).writeByte (s.sp - 2 + 1) (hiByte v)) := by
  have m : SameMemory { s with sp := s.sp - 2 } s := by constructor <;> rfl
  exact (m.writeByte _ _).writeByte _ _

theorem SameMemory.setLoc_atHL (s : State) (v : Byte) :
    SameMemory ((s.afterLoc .atHL).setLoc .atHL v) (s.writeByte s.hl v) := by
  simp only [State.setLoc, State.afterLoc, State.hl_afterRead]
  exact (SameMemory.afterRead s s.hl).writeByte _ _

theorem SameMemory.setLoc_reg (s : State) (r : Reg8) (v : Byte) :
    SameMemory ((s.afterLoc (.reg r)).setLoc (.reg r) v) s := by
  constructor <;> simp [State.setLoc, State.afterLoc]

theorem Stores.loc {s t : State} {i : Instr} (x : Loc8) (v : Byte)
    (e : storedAddresses s i = (match x with | .reg _ => [] | .atHL => [s.hl]))
    (m : SameMemory t ((s.afterLoc x).setLoc x v)) : Stores s i t := by
  rcases x with r | _
  · exact .none e (m.trans (SameMemory.setLoc_reg s r v))
  · exact .one e (m.trans (SameMemory.setLoc_atHL s v))

/-- WHAT AN INSTRUCTION CAN DO TO MEMORY: its memory side afterwards is that of the byte writes at its stored addresses,
in order, from the state before. -/
theorem exec_stores {i : Instr} {s t : State} (h : exec i s = .next t) : Stores s i t := by
  induction i using Instr.byForm with
  | h_undef i hi =>
    rw [exec_undefined i hi] at h
    cases h
    exact .none (storedAddresses_undefined hi s) (by constructor <;> simp)
  | h_prefix e ih =>
    rw [exec_prefixCB] at h
    obtain ⟨ws, e, m⟩ := ih h
    exact ⟨ws, by rw [e, storedAddresses_decodeExtended], m⟩
  | h_jrForm cc v =>
    rw [exec_jrForm, jumpRelIf] at h
    split at h <;> cases h <;> exact .none (by simp) (by constructor <;> simp)
  | h_jpForm cc v =>
    rw [exec_jpForm, jumpIf] at h
    split at h <;> cases h <;> exact .none (by simp) (by constructor <;> simp)
  | h_callForm cc v =>
    rw [exec_callForm, callIf] at h
    split at h <;> cases h
    · exact .two (by simp [*]) (.trans (by constructor <;> simp [State.call]) (SameMemory.push s s.pc))
    · exact .none (by simp [*]) (by constructor <;> simp)
  | h_retForm cc =>
    rw [exec_retForm, returnIf] at h
    split at h <;> cases h <;> exact .none (by simp) (by constructor <;> simp)
  | h_aluForm op x =>
    rw [exec_aluForm] at h
    cases h
    exact .none (by simp) (by by_cases e : op = .cp <;> simp only [e, if_true, if_false] <;> constructor <;> simp)
  | h_ldPairForm p nn =>
    rw [exec_ldPairForm] at h
    cases h
    exact .none (by simp) (by constructor <;> simp)
  | h_call_a16 nn =>
    rw [exec_call_a16] at h
    cases h
    exact .two (by simp) (.trans (by constructor <;> simp [State.call]) (SameMemory.push s s.pc))
  | h_rstForm k =>
    rw [exec_rstForm] at h
    cases h
    exact .two (by simp) (.trans (by constructor <;> simp [State.call]) (SameMemory.push s s.pc))
  | h_pushForm q =>
    rw [exec_pushForm] at h
    cases h
    exact .two (by simp) (.trans (by constructor <;> simp) (SameMemory.push s (s.stk q)))
  | h_ldAtA16_SP nn =>
    rw [exec_ldAtA16_SP] at h
    cases h
    exact .two (x := nn) (y := nn + 1) (v := loByte s.sp) (w := hiByte s.sp) (by simp)
      (by constructor <;> simp [State.writeWord])
  | h_incForm x =>
    rw [exec_incForm] at h
    cases h
    exact .loc x (inc8 (s.locValue x) s.flagC).res (by cases x <;> simp) (by constructor <;> simp)
  | h_decForm x =>
    rw [exec_decForm] at h
    cases h
    exact .loc x (dec8 (s.locValue x) s.flagC).res (by cases x <;> simp) (by constructor <;> simp)
  | h_rotForm k x =>
    rw [exec_rotForm] at h
    cases h
    exact .loc x (rotate k (s.locValue x) s.flagC).1 (by cases x <;> simp) (by constructor <;> simp)
  | h_resForm k x =>
    rw [exec_resForm] at h
    cases h
    exact .loc x (clearBit k (s.locValue x)) (by cases x <;> simp) (by constructor <;> simp)
  | h_setForm k x =>
    rw [exec_setForm] at h
    cases h
    exact .loc x (setBit k (s.locValue x)) (by cases x <;> simp) (by constructor <;> simp)
  | h_ldAtHLForm r =>
    rw [exec_ldAtHLForm] at h
    cases h
    exact .one (x := s.hl) (v := s.reg r) (by simp) (by constructor <;> simp)
  | h_ldAtHL_d8 n =>
    rw [exec_ldAtHL_d8] at h
    cases h
    exact .one (x := s.hl) (v := n) (by simp) (by constructor <;> simp)
  | h_ldAtBC_A =>
    rw [exec_ldAtBC_A] at h
    cases h
    exact .one (x := s.bc) (v := s.a) (by simp) (by constructor <;> simp)
  | h_ldAtDE_A =>
    rw [exec_ldAtDE_A] at h
    cases h
    exact .one (x := s.de) (v := s.a) (by simp) (by constructor <;> simp)
  | h_ldAtA16_A nn =>
    rw [exec_ldAtA16_A] at h
    cases h
    exact .one (x := nn) (v := s.a) (by simp) (by constructor <;> simp)
  | h_ldhAtA8_A o =>
    rw [exec_ldhAtA8_A] at h
    cases h
    exact .one (x := highPage o) (v := s.a) (by simp) (by constructor <;> simp)
  | h_ldAtC_A =>
    rw [exec_ldAtC_A] at h
    cases h
    exact .one (x := highPage s.c) (v := s.a) (by simp) (by constructor <;> simp)
  | h_ldAtHLInc_A =>
    rw [exec_ldAtHLInc_A] at h
    cases h
    exact .one (x := s.hl) (v := s.a) (by simp) (by constructor <;> simp)
  | h_ldAtHLDec_A =>
    rw [exec_ldAtHLDec_A] at h
    cases h
    exact .one (x := s.hl) (v := s.a) (by simp) (by constructor <;> simp)
  | _ =>
    refine .none (by simp) ?_
    simp only [exec_ldForm, exec_addHLForm, exec_incPairForm, exec_decPairForm, exec_popForm, exec_bitForm, exec_nop,
      exec_rlca, exec_ldA_AtBC, exec_rrca, exec_stop, exec_rla, exec_jr_r8, exec_ldA_AtDE, exec_rra, exec_daa,
      exec_ldA_AtHLInc, exec_cpl, exec_scf, exec_ldA_AtHLDec, exec_ccf, exec_halt, exec_jp_a16, exec_ret, exec_reti,
      exec_addSP_r8, exec_jpHL, exec_ldhA_AtA8, exec_ldA_AtC, exec_di, exec_ldHL_SPr8, exec_ldSP_HL, exec_ldA_AtA16,
      exec_ei] at h
    cases h
    constructor <;> simp [State.returnFromInterrupt]

/-- An instruction stores nothing, one byte, or two bytes at neighbouring addresses (R78). -/
theorem storedAddresses_shape (s : State) (i : Instr) : storedAddresses s i = [] ∨
    (∃ x, storedAddresses s i = [x]) ∨ (∃ x, storedAddresses s i = [x, x + 1]) := by
  induction i using Instr.byForm with
  | h_undef i hi => exact .inl (storedAddresses_undefined hi s)
  | h_prefix e ih => rw [← storedAddresses_decodeExtended]; exact ih
  | h_incForm x | h_decForm x | h_rotForm _ x | h_resForm _ x | h_setForm _ x => cases x <;> simp
  | h_callForm cc v => cases h : s.cond cc <;> simp [h]
  | _ => simp

/-- `exec_stores` by the number of bytes stored. -/
theorem exec_stores_cases {i : Instr} {s t : State} (h : exec i s = .next t) :
    (storedAddresses s i = [] ∧ SameMemory t s) ∨
    (∃ x v, storedAddresses s i = [x] ∧ SameMemory t (s.writeByte x v)) ∨
    (∃ x v w, storedAddresses s i = [x, x + 1] ∧ SameMemory t ((s.writeByte x v).writeByte (x + 1) w)) := by
  obtain ⟨ws, hw, m⟩ := exec_stores h
  rcases storedAddresses_shape s i with e | ⟨x, e⟩ | ⟨x, e⟩
  · rw [e, List.map_eq_nil_iff] at hw
    subst hw
    exact .inl ⟨e, m⟩
  · rw [e, List.map_eq_singleton_iff] at hw
    obtain ⟨⟨y, v⟩, rfl, rfl⟩ := hw
    exact .inr (.inl ⟨_, v, e, m⟩)
  · rw [e, List.map_eq_cons_iff] at hw
    obtain ⟨⟨y, v⟩, l, rfl, rfl, hl⟩ := hw
    rw [List.map_eq_singleton_iff] at hl
    obtain ⟨⟨z, w⟩, rfl, hz⟩ := hl
    cases hz
    exact .inr (.inr ⟨_, v, w, e, m⟩)

end Sys2Proof.Machine
end

