-- ==== Sys2Proof/Tests/Slice0.lean ====
section
/-!
SUPPORT. Tests. The expected values come from outside the model: the decoder's words from the `Encoding:` lines of the
spec (30_encoding.md R161 and the instructions' rules), the one-step results from spec/95_test_vectors.md (each theorem
named for its vector), the ill-formed terms from WellFormed, and after them a witness for the hypotheses of each claim.
-/

namespace Sys2Proof.Tests

open Sys2Proof.Machine

/-! ## Decoding: one word of every row -/

theorem test_decode_primary_00 :
    decode [0x00#8] = .instr .nop [] ∧
    decode [0x01#8, 0x34#8, 0x92#8] = .instr (.ldBC_d16 0x9234#16) [] ∧
    decode [0x02#8] = .instr .ldAtBC_A [] ∧
    decode [0x03#8] = .instr .incBC [] ∧
    decode [0x04#8] = .instr .incB [] ∧
    decode [0x05#8] = .instr .decB [] ∧
    decode [0x06#8, 0xA7#8] = .instr (.ldB_d8 0xA7#8) [] ∧
    decode [0x07#8] = .instr .rlca [] ∧
    decode [0x08#8, 0x34#8, 0x92#8] = .instr (.ldAtA16_SP 0x9234#16) [] ∧
    decode [0x09#8] = .instr .addHL_BC [] ∧
    decode [0x0A#8] = .instr .ldA_AtBC [] ∧
    decode [0x0B#8] = .instr .decBC [] ∧
    decode [0x0C#8] = .instr .incC [] ∧
    decode [0x0D#8] = .instr .decC [] ∧
    decode [0x0E#8, 0xA7#8] = .instr (.ldC_d8 0xA7#8) [] ∧
    decode [0x0F#8] = .instr .rrca [] := by
  decide

theorem test_decode_primary_10 :
    decode [0x10#8, 0x00#8] = .instr (.stop 0x00#8) [] ∧
    decode [0x11#8, 0x34#8, 0x92#8] = .instr (.ldDE_d16 0x9234#16) [] ∧
    decode [0x12#8] = .instr .ldAtDE_A [] ∧
    decode [0x13#8] = .instr .incDE [] ∧
    decode [0x14#8] = .instr .incD [] ∧
    decode [0x15#8] = .instr .decD [] ∧
    decode [0x16#8, 0xA7#8] = .instr (.ldD_d8 0xA7#8) [] ∧
    decode [0x17#8] = .instr .rla [] ∧
    decode [0x18#8, 0xA7#8] = .instr (.jr_r8 0xA7#8) [] ∧
    decode [0x19#8] = .instr .addHL_DE [] ∧
    decode [0x1A#8] = .instr .ldA_AtDE [] ∧
    decode [0x1B#8] = .instr .decDE [] ∧
    decode [0x1C#8] = .instr .incE [] ∧
    decode [0x1D#8] = .instr .decE [] ∧
    decode [0x1E#8, 0xA7#8] = .instr (.ldE_d8 0xA7#8) [] ∧
    decode [0x1F#8] = .instr .rra [] := by
  decide

theorem test_decode_primary_20 :
    decode [0x20#8, 0xA7#8] = .instr (.jrNZ_r8 0xA7#8) [] ∧
    decode [0x21#8, 0x34#8, 0x92#8] = .instr (.ldHL_d16 0x9234#16) [] ∧
    decode [0x22#8] = .instr .ldAtHLInc_A [] ∧
    decode [0x23#8] = .instr .incHL [] ∧
    decode [0x24#8] = .instr .incH [] ∧
    decode [0x25#8] = .instr .decH [] ∧
    decode [0x26#8, 0xA7#8] = .instr (.ldH_d8 0xA7#8) [] ∧
    decode [0x27#8] = .instr .daa [] ∧
    decode [0x28#8, 0xA7#8] = .instr (.jrZ_r8 0xA7#8) [] ∧
    decode [0x29#8] = .instr .addHL_HL [] ∧
    decode [0x2A#8] = .instr .ldA_AtHLInc [] ∧
    decode [0x2B#8] = .instr .decHL [] ∧
    decode [0x2C#8] = .instr .incL [] ∧
    decode [0x2D#8] = .instr .decL [] ∧
    decode [0x2E#8, 0xA7#8] = .instr (.ldL_d8 0xA7#8) [] ∧
    decode [0x2F#8] = .instr .cpl [] := by
  decide

theorem test_decode_primary_30 :
    decode [0x30#8, 0xA7#8] = .instr (.jrNC_r8 0xA7#8) [] ∧
    decode [0x31#8, 0x34#8, 0x92#8] = .instr (.ldSP_d16 0x9234#16) [] ∧
    decode [0x32#8] = .instr .ldAtHLDec_A [] ∧
    decode [0x33#8] = .instr .incSP [] ∧
    decode [0x34#8] = .instr .incAtHL [] ∧
    decode [0x35#8] = .instr .decAtHL [] ∧
    decode [0x36#8, 0xA7#8] = .instr (.ldAtHL_d8 0xA7#8) [] ∧
    decode [0x37#8] = .instr .scf [] ∧
    decode [0x38#8, 0xA7#8] = .instr (.jrC_r8 0xA7#8) [] ∧
    decode [0x39#8] = .instr .addHL_SP [] ∧
    decode [0x3A#8] = .instr .ldA_AtHLDec [] ∧
    decode [0x3B#8] = .instr .decSP [] ∧
    decode [0x3C#8] = .instr .incA [] ∧
    decode [0x3D#8] = .instr .decA [] ∧
    decode [0x3E#8, 0xA7#8] = .instr (.ldA_d8 0xA7#8) [] ∧
    decode [0x3F#8] = .instr .ccf [] := by
  decide

theorem test_decode_primary_40 :
    decode [0x40#8] = .instr .ldB_B [] ∧
    decode [0x41#8] = .instr .ldB_C [] ∧
    decode [0x42#8] = .instr .ldB_D [] ∧
    decode [0x43#8] = .instr .ldB_E [] ∧
    decode [0x44#8] = .instr .ldB_H [] ∧
    decode [0x45#8] = .instr .ldB_L [] ∧
    decode [0x46#8] = .instr .ldB_AtHL [] ∧
    decode [0x47#8] = .instr .ldB_A [] ∧
    decode [0x48#8] = .instr .ldC_B [] ∧
    decode [0x49#8] = .instr .ldC_C [] ∧
    decode [0x4A#8] = .instr .ldC_D [] ∧
    decode [0x4B#8] = .instr .ldC_E [] ∧
    decode [0x4C#8] = .instr .ldC_H [] ∧
    decode [0x4D#8] = .instr .ldC_L [] ∧
    decode [0x4E#8] = .instr .ldC_AtHL [] ∧
    decode [0x4F#8] = .instr .ldC_A [] := by
  decide

theorem test_decode_primary_50 :
    decode [0x50#8] = .instr .ldD_B [] ∧
    decode [0x51#8] = .instr .ldD_C [] ∧
    decode [0x52#8] = .instr .ldD_D [] ∧
    decode [0x53#8] = .instr .ldD_E [] ∧
    decode [0x54#8] = .instr .ldD_H [] ∧
    decode [0x55#8] = .instr .ldD_L [] ∧
    decode [0x56#8] = .instr .ldD_AtHL [] ∧
    decode [0x57#8] = .instr .ldD_A [] ∧
    decode [0x58#8] = .instr .ldE_B [] ∧
    decode [0x59#8] = .instr .ldE_C [] ∧
    decode [0x5A#8] = .instr .ldE_D [] ∧
    decode [0x5B#8] = .instr .ldE_E [] ∧
    decode [0x5C#8] = .instr .ldE_H [] ∧
    decode [0x5D#8] = .instr .ldE_L [] ∧
    decode [0x5E#8] = .instr .ldE_AtHL [] ∧
    decode [0x5F#8] = .instr .ldE_A [] := by
  decide

theorem test_decode_primary_60 :
    decode [0x60#8] = .instr .ldH_B [] ∧
    decode [0x61#8] = .instr .ldH_C [] ∧
    decode [0x62#8] = .instr .ldH_D [] ∧
    decode [0x63#8] = .instr .ldH_E [] ∧
    decode [0x64#8] = .instr .ldH_H [] ∧
    decode [0x65#8] = .instr .ldH_L [] ∧
    decode [0x66#8] = .instr .ldH_AtHL [] ∧
    decode [0x67#8] = .instr .ldH_A [] ∧
    decode [0x68#8] = .instr .ldL_B [] ∧
    decode [0x69#8] = .instr .ldL_C [] ∧
    decode [0x6A#8] = .instr .ldL_D [] ∧
    decode [0x6B#8] = .instr .ldL_E [] ∧
    decode [0x6C#8] = .instr .ldL_H [] ∧
    decode [0x6D#8] = .instr .ldL_L [] ∧
    decode [0x6E#8] = .instr .ldL_AtHL [] ∧
    decode [0x6F#8] = .instr .ldL_A [] := by
  decide

theorem test_decode_primary_70 :
    decode [0x70#8] = .instr .ldAtHL_B [] ∧
    decode [0x71#8] = .instr .ldAtHL_C [] ∧
    decode [0x72#8] = .instr .ldAtHL_D [] ∧
    decode [0x73#8] = .instr .ldAtHL_E [] ∧
    decode [0x74#8] = .instr .ldAtHL_H [] ∧
    decode [0x75#8] = .instr .ldAtHL_L [] ∧
    decode [0x76#8] = .instr .halt [] ∧
    decode [0x77#8] = .instr .ldAtHL_A [] ∧
    decode [0x78#8] = .instr .ldA_B [] ∧
    decode [0x79#8] = .instr .ldA_C [] ∧
    decode [0x7A#8] = .instr .ldA_D [] ∧
    decode [0x7B#8] = .instr .ldA_E [] ∧
    decode [0x7C#8] = .instr .ldA_H [] ∧
    decode [0x7D#8] = .instr .ldA_L [] ∧
    decode [0x7E#8] = .instr .ldA_AtHL [] ∧
    decode [0x7F#8] = .instr .ldA_A [] := by
  decide

theorem test_decode_primary_80 :
    decode [0x80#8] = .instr .addA_B [] ∧
    decode [0x81#8] = .instr .addA_C [] ∧
    decode [0x82#8] = .instr .addA_D [] ∧
    decode [0x83#8] = .instr .addA_E [] ∧
    decode [0x84#8] = .instr .addA_H [] ∧
    decode [0x85#8] = .instr .addA_L [] ∧
    decode [0x86#8] = .instr .addA_AtHL [] ∧
    decode [0x87#8] = .instr .addA_A [] ∧
    decode [0x88#8] = .instr .adcA_B [] ∧
    decode [0x89#8] = .instr .adcA_C [] ∧
    decode [0x8A#8] = .instr .adcA_D [] ∧
    decode [0x8B#8] = .instr .adcA_E [] ∧
    decode [0x8C#8] = .instr .adcA_H [] ∧
    decode [0x8D#8] = .instr .adcA_L [] ∧
    decode [0x8E#8] = .instr .adcA_AtHL [] ∧
    decode [0x8F#8] = .instr .adcA_A [] := by
  decide

theorem test_decode_primary_90 :
    decode [0x90#8] = .instr .subB [] ∧
    decode [0x91#8] = .instr .subC [] ∧
    decode [0x92#8] = .instr .subD [] ∧
    decode [0x93#8] = .instr .subE [] ∧
    decode [0x94#8] = .instr .subH [] ∧
    decode [0x95#8] = .instr .subL [] ∧
    decode [0x96#8] = .instr .subAtHL [] ∧
    decode [0x97#8] = .instr .subA [] ∧
    decode [0x98#8] = .instr .sbcA_B [] ∧
    decode [0x99#8] = .instr .sbcA_C [] ∧
    decode [0x9A#8] = .instr .sbcA_D [] ∧
    decode [0x9B#8] = .instr .sbcA_E [] ∧
    decode [0x9C#8] = .instr .sbcA_H [] ∧
    decode [0x9D#8] = .instr .sbcA_L [] ∧
    decode [0x9E#8] = .instr .sbcA_AtHL [] ∧
    decode [0x9F#8] = .instr .sbcA_A [] := by
  decide

theorem test_decode_primary_A0 :
    decode [0xA0#8] = .instr .andB [] ∧
    decode [0xA1#8] = .instr .andC [] ∧
    decode [0xA2#8] = .instr .andD [] ∧
    decode [0xA3#8] = .instr .andE [] ∧
    decode [0xA4#8] = .instr .andH [] ∧
    decode [0xA5#8] = .instr .andL [] ∧
    decode [0xA6#8] = .instr .andAtHL [] ∧
    decode [0xA7#8] = .instr .andA [] ∧
    decode [0xA8#8] = .instr .xorB [] ∧
    decode [0xA9#8] = .instr .xorC [] ∧
    decode [0xAA#8] = .instr .xorD [] ∧
    decode [0xAB#8] = .instr .xorE [] ∧
    decode [0xAC#8] = .instr .xorH [] ∧
    decode [0xAD#8] = .instr .xorL [] ∧
    decode [0xAE#8] = .instr .xorAtHL [] ∧
    decode [0xAF#8] = .instr .xorA [] := by
  decide

theorem test_decode_primary_B0 :
    decode [0xB0#8] = .instr .orB [] ∧
    decode [0xB1#8] = .instr .orC [] ∧
    decode [0xB2#8] = .instr .orD [] ∧
    decode [0xB3#8] = .instr .orE [] ∧
    decode [0xB4#8] = .instr .orH [] ∧
    decode [0xB5#8] = .instr .orL [] ∧
    decode [0xB6#8] = .instr .orAtHL [] ∧
    decode [0xB7#8] = .instr .orA [] ∧
    decode [0xB8#8] = .instr .cpB [] ∧
    decode [0xB9#8] = .instr .cpC [] ∧
    decode [0xBA#8] = .instr .cpD [] ∧
    decode [0xBB#8] = .instr .cpE [] ∧
    decode [0xBC#8] = .instr .cpH [] ∧
    decode [0xBD#8] = .instr .cpL [] ∧
    decode [0xBE#8] = .instr .cpAtHL [] ∧
    decode [0xBF#8] = .instr .cpA [] := by
  decide

theorem test_decode_primary_C0 :
    decode [0xC0#8] = .instr .retNZ [] ∧
    decode [0xC1#8] = .instr .popBC [] ∧
    decode [0xC2#8, 0x34#8, 0x92#8] = .instr (.jpNZ_a16 0x9234#16) [] ∧
    decode [0xC3#8, 0x34#8, 0x92#8] = .instr (.jp_a16 0x9234#16) [] ∧
    decode [0xC4#8, 0x34#8, 0x92#8] = .instr (.callNZ_a16 0x9234#16) [] ∧
    decode [0xC5#8] = .instr .pushBC [] ∧
    decode [0xC6#8, 0xA7#8] = .instr (.addA_d8 0xA7#8) [] ∧
    decode [0xC7#8] = .instr .rst00 [] ∧
    decode [0xC8#8] = .instr .retZ [] ∧
    decode [0xC9#8] = .instr .ret [] ∧
    decode [0xCA#8, 0x34#8, 0x92#8] = .instr (.jpZ_a16 0x9234#16) [] ∧
    decode [0xCC#8, 0x34#8, 0x92#8] = .instr (.callZ_a16 0x9234#16) [] ∧
    decode [0xCD#8, 0x34#8, 0x92#8] = .instr (.call_a16 0x9234#16) [] ∧
    decode [0xCE#8, 0xA7#8] = .instr (.adcA_d8 0xA7#8) [] ∧
    decode [0xCF#8] = .instr .rst08 [] := by
  decide

theorem test_decode_primary_D0 :
    decode [0xD0#8] = .instr .retNC [] ∧
    decode [0xD1#8] = .instr .popDE [] ∧
    decode [0xD2#8, 0x34#8, 0x92#8] = .instr (.jpNC_a16 0x9234#16) [] ∧
    decode [0xD3#8] = .instr .undefD3 [] ∧
    decode [0xD4#8, 0x34#8, 0x92#8] = .instr (.callNC_a16 0x9234#16) [] ∧
    decode [0xD5#8] = .instr .pushDE [] ∧
    decode [0xD6#8, 0xA7#8] = .instr (.sub_d8 0xA7#8) [] ∧
    decode [0xD7#8] = .instr .rst10 [] ∧
    decode [0xD8#8] = .instr .retC [] ∧
    decode [0xD9#8] = .instr .reti [] ∧
    decode [0xDA#8, 0x34#8, 0x92#8] = .instr (.jpC_a16 0x9234#16) [] ∧
    decode [0xDB#8] = .instr .undefDB [] ∧
    decode [0xDC#8, 0x34#8, 0x92#8] = .instr (.callC_a16 0x9234#16) [] ∧
    decode [0xDD#8] = .instr .undefDD [] ∧
    decode [0xDE#8, 0xA7#8] = .instr (.sbcA_d8 0xA7#8) [] ∧
    decode [0xDF#8] = .instr .rst18 [] := by
  decide

theorem test_decode_primary_E0 :
    decode [0xE0#8, 0xA7#8] = .instr (.ldhAtA8_A 0xA7#8) [] ∧
    decode [0xE1#8] = .instr .popHL [] ∧
    decode [0xE2#8] = .instr .ldAtC_A [] ∧
    decode [0xE3#8] = .instr .undefE3 [] ∧
    decode [0xE4#8] = .instr .undefE4 [] ∧
    decode [0xE5#8] = .instr .pushHL [] ∧
    decode [0xE6#8, 0xA7#8] = .instr (.and_d8 0xA7#8) [] ∧
    decode [0xE7#8] = .instr .rst20 [] ∧
    decode [0xE8#8, 0xA7#8] = .instr (.addSP_r8 0xA7#8) [] ∧
    decode [0xE9#8] = .instr .jpHL [] ∧
    decode [0xEA#8, 0x34#8, 0x92#8] = .instr (.ldAtA16_A 0x9234#16) [] ∧
    decode [0xEB#8] = .instr .undefEB [] ∧
    decode [0xEC#8] = .instr .undefEC [] ∧
    decode [0xED#8] = .instr .undefED [] ∧
    decode [0xEE#8, 0xA7#8] = .instr (.xor_d8 0xA7#8) [] ∧
    decode [0xEF#8] = .instr .rst28 [] := by
  decide

theorem test_decode_primary_F0 :
    decode [0xF0#8, 0xA7#8] = .instr (.ldhA_AtA8 0xA7#8) [] ∧
    decode [0xF1#8] = .instr .popAF [] ∧
    decode [0xF2#8] = .instr .ldA_AtC [] ∧
    decode [0xF3#8] = .instr .di [] ∧
    decode [0xF4#8] = .instr .undefF4 [] ∧
    decode [0xF5#8] = .instr .pushAF [] ∧
    decode [0xF6#8, 0xA7#8] = .instr (.or_d8 0xA7#8) [] ∧
    decode [0xF7#8] = .instr .rst30 [] ∧
    decode [0xF8#8, 0xA7#8] = .instr (.ldHL_SPr8 0xA7#8) [] ∧
    decode [0xF9#8] = .instr .ldSP_HL [] ∧
    decode [0xFA#8, 0x34#8, 0x92#8] = .instr (.ldA_AtA16 0x9234#16) [] ∧
    decode [0xFB#8] = .instr .ei [] ∧
    decode [0xFC#8] = .instr .undefFC [] ∧
    decode [0xFD#8] = .instr .undefFD [] ∧
    decode [0xFE#8, 0xA7#8] = .instr (.cp_d8 0xA7#8) [] ∧
    decode [0xFF#8] = .instr .rst38 [] := by
  decide

theorem test_decode_extended_00 :
    decode [0xCB#8, 0x00#8] = .instr .rlcB [] ∧
    decode [0xCB#8, 0x01#8] = .instr .rlcC [] ∧
    decode [0xCB#8, 0x02#8] = .instr .rlcD [] ∧
    decode [0xCB#8, 0x03#8] = .instr .rlcE [] ∧
    decode [0xCB#8, 0x04#8] = .instr .rlcH [] ∧
    decode [0xCB#8, 0x05#8] = .instr .rlcL [] ∧
    decode [0xCB#8, 0x06#8] = .instr .rlcAtHL [] ∧
    decode [0xCB#8, 0x07#8] = .instr .rlcA [] ∧
    decode [0xCB#8, 0x08#8] = .instr .rrcB [] ∧
    decode [0xCB#8, 0x09#8] = .instr .rrcC [] ∧
    decode [0xCB#8, 0x0A#8] = .instr .rrcD [] ∧
    decode [0xCB#8, 0x0B#8] = .instr .rrcE [] ∧
    decode [0xCB#8, 0x0C#8] = .instr .rrcH [] ∧
    decode [0xCB#8, 0x0D#8] = .instr .rrcL [] ∧
    decode [0xCB#8, 0x0E#8] = .instr .rrcAtHL [] ∧
    decode [0xCB#8, 0x0F#8] = .instr .rrcA [] := by
  decide

theorem test_decode_extended_10 :
    decode [0xCB#8, 0x10#8] = .instr .rlB [] ∧
    decode [0xCB#8, 0x11#8] = .instr .rlC [] ∧
    decode [0xCB#8, 0x12#8] = .instr .rlD [] ∧
    decode [0xCB#8, 0x13#8] = .instr .rlE [] ∧
    decode [0xCB#8, 0x14#8] = .instr .rlH [] ∧
    decode [0xCB#8, 0x15#8] = .instr .rlL [] ∧
    decode [0xCB#8, 0x16#8] = .instr .rlAtHL [] ∧
    decode [0xCB#8, 0x17#8] = .instr .rlA [] ∧
    decode [0xCB#8, 0x18#8] = .instr .rrB [] ∧
    decode [0xCB#8, 0x19#8] = .instr .rrC [] ∧
    decode [0xCB#8, 0x1A#8] = .instr .rrD [] ∧
    decode [0xCB#8, 0x1B#8] = .instr .rrE [] ∧
    decode [0xCB#8, 0x1C#8] = .instr .rrH [] ∧
    decode [0xCB#8, 0x1D#8] = .instr .rrL [] ∧
    decode [0xCB#8, 0x1E#8] = .instr .rrAtHL [] ∧
    decode [0xCB#8, 0x1F#8] = .instr .rrA [] := by
  decide

theorem test_decode_extended_20 :
    decode [0xCB#8, 0x20#8] = .instr .slaB [] ∧
    decode [0xCB#8, 0x21#8] = .instr .slaC [] ∧
    decode [0xCB#8, 0x22#8] = .instr .slaD [] ∧
    decode [0xCB#8, 0x23#8] = .instr .slaE [] ∧
    decode [0xCB#8, 0x24#8] = .instr .slaH [] ∧
    decode [0xCB#8, 0x25#8] = .instr .slaL [] ∧
    decode [0xCB#8, 0x26#8] = .instr .slaAtHL [] ∧
    decode [0xCB#8, 0x27#8] = .instr .slaA [] ∧
    decode [0xCB#8, 0x28#8] = .instr .sraB [] ∧
    decode [0xCB#8, 0x29#8] = .instr .sraC [] ∧
    decode [0xCB#8, 0x2A#8] = .instr .sraD [] ∧
    decode [0xCB#8, 0x2B#8] = .instr .sraE [] ∧
    decode [0xCB#8, 0x2C#8] = .instr .sraH [] ∧
    decode [0xCB#8, 0x2D#8] = .instr .sraL [] ∧
    decode [0xCB#8, 0x2E#8] = .instr .sraAtHL [] ∧
    decode [0xCB#8, 0x2F#8] = .instr .sraA [] := by
  decide

theorem test_decode_extended_30 :
    decode [0xCB#8, 0x30#8] = .instr .swapB [] ∧
    decode [0xCB#8, 0x31#8] = .instr .swapC [] ∧
    decode [0xCB#8, 0x32#8] = .instr .swapD [] ∧
    decode [0xCB#8, 0x33#8] = .instr .swapE [] ∧
    decode [0xCB#8, 0x34#8] = .instr .swapH [] ∧
    decode [0xCB#8, 0x35#8] = .instr .swapL [] ∧
    decode [0xCB#8, 0x36#8] = .instr .swapAtHL [] ∧
    decode [0xCB#8, 0x37#8] = .instr .swapA [] ∧
    decode [0xCB#8, 0x38#8] = .instr .srlB [] ∧
    decode [0xCB#8, 0x39#8] = .instr .srlC [] ∧
    decode [0xCB#8, 0x3A#8] = .instr .srlD [] ∧
    decode [0xCB#8, 0x3B#8] = .instr .srlE [] ∧
    decode [0xCB#8, 0x3C#8] = .instr .srlH [] ∧
    decode [0xCB#8, 0x3D#8] = .instr .srlL [] ∧
    decode [0xCB#8, 0x3E#8] = .instr .srlAtHL [] ∧
    decode [0xCB#8, 0x3F#8] = .instr .srlA [] := by
  decide

theorem test_decode_extended_40 :
    decode [0xCB#8, 0x40#8] = .instr .bit0_B [] ∧
    decode [0xCB#8, 0x41#8] = .instr .bit0_C [] ∧
    decode [0xCB#8, 0x42#8] = .instr .bit0_D [] ∧
    decode [0xCB#8, 0x43#8] = .instr .bit0_E [] ∧
    decode [0xCB#8, 0x44#8] = .instr .bit0_H [] ∧
    decode [0xCB#8, 0x45#8] = .instr .bit0_L [] ∧
    decode [0xCB#8, 0x46#8] = .instr .bit0_AtHL [] ∧
    decode [0xCB#8, 0x47#8] = .instr .bit0_A [] ∧
    decode [0xCB#8, 0x48#8] = .instr .bit1_B [] ∧
    decode [0xCB#8, 0x49#8] = .instr .bit1_C [] ∧
    decode [0xCB#8, 0x4A#8] = .instr .bit1_D [] ∧
    decode [0xCB#8, 0x4B#8] = .instr .bit1_E [] ∧
    decode [0xCB#8, 0x4C#8] = .instr .bit1_H [] ∧
    decode [0xCB#8, 0x4D#8] = .instr .bit1_L [] ∧
    decode [0xCB#8, 0x4E#8] = .instr .bit1_AtHL [] ∧
    decode [0xCB#8, 0x4F#8] = .instr .bit1_A [] := by
  decide

theorem test_decode_extended_50 :
    decode [0xCB#8, 0x50#8] = .instr .bit2_B [] ∧
    decode [0xCB#8, 0x51#8] = .instr .bit2_C [] ∧
    decode [0xCB#8, 0x52#8] = .instr .bit2_D [] ∧
    decode [0xCB#8, 0x53#8] = .instr .bit2_E [] ∧
    decode [0xCB#8, 0x54#8] = .instr .bit2_H [] ∧
    decode [0xCB#8, 0x55#8] = .instr .bit2_L [] ∧
    decode [0xCB#8, 0x56#8] = .instr .bit2_AtHL [] ∧
    decode [0xCB#8, 0x57#8] = .instr .bit2_A [] ∧
    decode [0xCB#8, 0x58#8] = .instr .bit3_B [] ∧
    decode [0xCB#8, 0x59#8] = .instr .bit3_C [] ∧
    decode [0xCB#8, 0x5A#8] = .instr .bit3_D [] ∧
    decode [0xCB#8, 0x5B#8] = .instr .bit3_E [] ∧
    decode [0xCB#8, 0x5C#8] = .instr .bit3_H [] ∧
    decode [0xCB#8, 0x5D#8] = .instr .bit3_L [] ∧
    decode [0xCB#8, 0x5E#8] = .instr .bit3_AtHL [] ∧
    decode [0xCB#8, 0x5F#8] = .instr .bit3_A [] := by
  decide

theorem test_decode_extended_60 :
    decode [0xCB#8, 0x60#8] = .instr .bit4_B [] ∧
    decode [0xCB#8, 0x61#8] = .instr .bit4_C [] ∧
    decode [0xCB#8, 0x62#8] = .instr .bit4_D [] ∧
    decode [0xCB#8, 0x63#8] = .instr .bit4_E [] ∧
    decode [0xCB#8, 0x64#8] = .instr .bit4_H [] ∧
    decode [0xCB#8, 0x65#8] = .instr .bit4_L [] ∧
    decode [0xCB#8, 0x66#8] = .instr .bit4_AtHL [] ∧
    decode [0xCB#8, 0x67#8] = .instr .bit4_A [] ∧
    decode [0xCB#8, 0x68#8] = .instr .bit5_B [] ∧
    decode [0xCB#8, 0x69#8] = .instr .bit5_C [] ∧
    decode [0xCB#8, 0x6A#8] = .instr .bit5_D [] ∧
    decode [0xCB#8, 0x6B#8] = .instr .bit5_E [] ∧
    decode [0xCB#8, 0x6C#8] = .instr .bit5_H [] ∧
    decode [0xCB#8, 0x6D#8] = .instr .bit5_L [] ∧
    decode [0xCB#8, 0x6E#8] = .instr .bit5_AtHL [] ∧
    decode [0xCB#8, 0x6F#8] = .instr .bit5_A [] := by
  decide

theorem test_decode_extended_70 :
    decode [0xCB#8, 0x70#8] = .instr .bit6_B [] ∧
    decode [0xCB#8, 0x71#8] = .instr .bit6_C [] ∧
    decode [0xCB#8, 0x72#8] = .instr .bit6_D [] ∧
    decode [0xCB#8, 0x73#8] = .instr .bit6_E [] ∧
    decode [0xCB#8, 0x74#8] = .instr .bit6_H [] ∧
    decode [0xCB#8, 0x75#8] = .instr .bit6_L [] ∧
    decode [0xCB#8, 0x76#8] = .instr .bit6_AtHL [] ∧
    decode [0xCB#8, 0x77#8] = .instr .bit6_A [] ∧
    decode [0xCB#8, 0x78#8] = .instr .bit7_B [] ∧
    decode [0xCB#8, 0x79#8] = .instr .bit7_C [] ∧
    decode [0xCB#8, 0x7A#8] = .instr .bit7_D [] ∧
    decode [0xCB#8, 0x7B#8] = .instr .bit7_E [] ∧
    decode [0xCB#8, 0x7C#8] = .instr .bit7_H [] ∧
    decode [0xCB#8, 0x7D#8] = .instr .bit7_L [] ∧
    decode [0xCB#8, 0x7E#8] = .instr .bit7_AtHL [] ∧
    decode [0xCB#8, 0x7F#8] = .instr .bit7_A [] := by
  decide

theorem test_decode_extended_80 :
    decode [0xCB#8, 0x80#8] = .instr .res0_B [] ∧
    decode [0xCB#8, 0x81#8] = .instr .res0_C [] ∧
    decode [0xCB#8, 0x82#8] = .instr .res0_D [] ∧
    decode [0xCB#8, 0x83#8] = .instr .res0_E [] ∧
    decode [0xCB#8, 0x84#8] = .instr .res0_H [] ∧
    decode [0xCB#8, 0x85#8] = .instr .res0_L [] ∧
    decode [0xCB#8, 0x86#8] = .instr .res0_AtHL [] ∧
    decode [0xCB#8, 0x87#8] = .instr .res0_A [] ∧
    decode [0xCB#8, 0x88#8] = .instr .res1_B [] ∧
    decode [0xCB#8, 0x89#8] = .instr .res1_C [] ∧
    decode [0xCB#8, 0x8A#8] = .instr .res1_D [] ∧
    decode [0xCB#8, 0x8B#8] = .instr .res1_E [] ∧
    decode [0xCB#8, 0x8C#8] = .instr .res1_H [] ∧
    decode [0xCB#8, 0x8D#8] = .instr .res1_L [] ∧
    decode [0xCB#8, 0x8E#8] = .instr .res1_AtHL [] ∧
    decode [0xCB#8, 0x8F#8] = .instr .res1_A [] := by
  decide

theorem test_decode_extended_90 :
    decode [0xCB#8, 0x90#8] = .instr .res2_B [] ∧
    decode [0xCB#8, 0x91#8] = .instr .res2_C [] ∧
    decode [0xCB#8, 0x92#8] = .instr .res2_D [] ∧
    decode [0xCB#8, 0x93#8] = .instr .res2_E [] ∧
    decode [0xCB#8, 0x94#8] = .instr .res2_H [] ∧
    decode [0xCB#8, 0x95#8] = .instr .res2_L [] ∧
    decode [0xCB#8, 0x96#8] = .instr .res2_AtHL [] ∧
    decode [0xCB#8, 0x97#8] = .instr .res2_A [] ∧
    decode [0xCB#8, 0x98#8] = .instr .res3_B [] ∧
    decode [0xCB#8, 0x99#8] = .instr .res3_C [] ∧
    decode [0xCB#8, 0x9A#8] = .instr .res3_D [] ∧
    decode [0xCB#8, 0x9B#8] = .instr .res3_E [] ∧
    decode [0xCB#8, 0x9C#8] = .instr .res3_H [] ∧
    decode [0xCB#8, 0x9D#8] = .instr .res3_L [] ∧
    decode [0xCB#8, 0x9E#8] = .instr .res3_AtHL [] ∧
    decode [0xCB#8, 0x9F#8] = .instr .res3_A [] := by
  decide

theorem test_decode_extended_A0 :
    decode [0xCB#8, 0xA0#8] = .instr .res4_B [] ∧
    decode [0xCB#8, 0xA1#8] = .instr .res4_C [] ∧
    decode [0xCB#8, 0xA2#8] = .instr .res4_D [] ∧
    decode [0xCB#8, 0xA3#8] = .instr .res4_E [] ∧
    decode [0xCB#8, 0xA4#8] = .instr .res4_H [] ∧
    decode [0xCB#8, 0xA5#8] = .instr .res4_L [] ∧
    decode [0xCB#8, 0xA6#8] = .instr .res4_AtHL [] ∧
    decode [0xCB#8, 0xA7#8] = .instr .res4_A [] ∧
    decode [0xCB#8, 0xA8#8] = .instr .res5_B [] ∧
    decode [0xCB#8, 0xA9#8] = .instr .res5_C [] ∧
    decode [0xCB#8, 0xAA#8] = .instr .res5_D [] ∧
    decode [0xCB#8, 0xAB#8] = .instr .res5_E [] ∧
    decode [0xCB#8, 0xAC#8] = .instr .res5_H [] ∧
    decode [0xCB#8, 0xAD#8] = .instr .res5_L [] ∧
    decode [0xCB#8, 0xAE#8] = .instr .res5_AtHL [] ∧
    decode [0xCB#8, 0xAF#8] = .instr .res5_A [] := by
  decide

theorem test_decode_extended_B0 :
    decode [0xCB#8, 0xB0#8] = .instr .res6_B [] ∧
    decode [0xCB#8, 0xB1#8] = .instr .res6_C [] ∧
    decode [0xCB#8, 0xB2#8] = .instr .res6_D [] ∧
    decode [0xCB#8, 0xB3#8] = .instr .res6_E [] ∧
    decode [0xCB#8, 0xB4#8] = .instr .res6_H [] ∧
    decode [0xCB#8, 0xB5#8] = .instr .res6_L [] ∧
    decode [0xCB#8, 0xB6#8] = .instr .res6_AtHL [] ∧
    decode [0xCB#8, 0xB7#8] = .instr .res6_A [] ∧
    decode [0xCB#8, 0xB8#8] = .instr .res7_B [] ∧
    decode [0xCB#8, 0xB9#8] = .instr .res7_C [] ∧
    decode [0xCB#8, 0xBA#8] = .instr .res7_D [] ∧
    decode [0xCB#8, 0xBB#8] = .instr .res7_E [] ∧
    decode [0xCB#8, 0xBC#8] = .instr .res7_H [] ∧
    decode [0xCB#8, 0xBD#8] = .instr .res7_L [] ∧
    decode [0xCB#8, 0xBE#8] = .instr .res7_AtHL [] ∧
    decode [0xCB#8, 0xBF#8] = .instr .res7_A [] := by
  decide

theorem test_decode_extended_C0 :
    decode [0xCB#8, 0xC0#8] = .instr .set0_B [] ∧
    decode [0xCB#8, 0xC1#8] = .instr .set0_C [] ∧
    decode [0xCB#8, 0xC2#8] = .instr .set0_D [] ∧
    decode [0xCB#8, 0xC3#8] = .instr .set0_E [] ∧
    decode [0xCB#8, 0xC4#8] = .instr .set0_H [] ∧
    decode [0xCB#8, 0xC5#8] = .instr .set0_L [] ∧
    decode [0xCB#8, 0xC6#8] = .instr .set0_AtHL [] ∧
    decode [0xCB#8, 0xC7#8] = .instr .set0_A [] ∧
    decode [0xCB#8, 0xC8#8] = .instr .set1_B [] ∧
    decode [0xCB#8, 0xC9#8] = .instr .set1_C [] ∧
    decode [0xCB#8, 0xCA#8] = .instr .set1_D [] ∧
    decode [0xCB#8, 0xCB#8] = .instr .set1_E [] ∧
    decode [0xCB#8, 0xCC#8] = .instr .set1_H [] ∧
    decode [0xCB#8, 0xCD#8] = .instr .set1_L [] ∧
    decode [0xCB#8, 0xCE#8] = .instr .set1_AtHL [] ∧
    decode [0xCB#8, 0xCF#8] = .instr .set1_A [] := by
  decide

theorem test_decode_extended_D0 :
    decode [0xCB#8, 0xD0#8] = .instr .set2_B [] ∧
    decode [0xCB#8, 0xD1#8] = .instr .set2_C [] ∧
    decode [0xCB#8, 0xD2#8] = .instr .set2_D [] ∧
    decode [0xCB#8, 0xD3#8] = .instr .set2_E [] ∧
    decode [0xCB#8, 0xD4#8] = .instr .set2_H [] ∧
    decode [0xCB#8, 0xD5#8] = .instr .set2_L [] ∧
    decode [0xCB#8, 0xD6#8] = .instr .set2_AtHL [] ∧
    decode [0xCB#8, 0xD7#8] = .instr .set2_A [] ∧
    decode [0xCB#8, 0xD8#8] = .instr .set3_B [] ∧
    decode [0xCB#8, 0xD9#8] = .instr .set3_C [] ∧
    decode [0xCB#8, 0xDA#8] = .instr .set3_D [] ∧
    decode [0xCB#8, 0xDB#8] = .instr .set3_E [] ∧
    decode [0xCB#8, 0xDC#8] = .instr .set3_H [] ∧
    decode [0xCB#8, 0xDD#8] = .instr .set3_L [] ∧
    decode [0xCB#8, 0xDE#8] = .instr .set3_AtHL [] ∧
    decode [0xCB#8, 0xDF#8] = .instr .set3_A [] := by
  decide

theorem test_decode_extended_E0 :
    decode [0xCB#8, 0xE0#8] = .instr .set4_B [] ∧
    decode [0xCB#8, 0xE1#8] = .instr .set4_C [] ∧
    decode [0xCB#8, 0xE2#8] = .instr .set4_D [] ∧
    decode [0xCB#8, 0xE3#8] = .instr .set4_E [] ∧
    decode [0xCB#8, 0xE4#8] = .instr .set4_H [] ∧
    decode [0xCB#8, 0xE5#8] = .instr .set4_L [] ∧
    decode [0xCB#8, 0xE6#8] = .instr .set4_AtHL [] ∧
    decode [0xCB#8, 0xE7#8] = .instr .set4_A [] ∧
    decode [0xCB#8, 0xE8#8] = .instr .set5_B [] ∧
    decode [0xCB#8, 0xE9#8] = .instr .set5_C [] ∧
    decode [0xCB#8, 0xEA#8] = .instr .set5_D [] ∧
    decode [0xCB#8, 0xEB#8] = .instr .set5_E [] ∧
    decode [0xCB#8, 0xEC#8] = .instr .set5_H [] ∧
    decode [0xCB#8, 0xED#8] = .instr .set5_L [] ∧
    decode [0xCB#8, 0xEE#8] = .instr .set5_AtHL [] ∧
    decode [0xCB#8, 0xEF#8] = .instr .set5_A [] := by
  decide

theorem test_decode_extended_F0 :
    decode [0xCB#8, 0xF0#8] = .instr .set6_B [] ∧
    decode [0xCB#8, 0xF1#8] = .instr .set6_C [] ∧
    decode [0xCB#8, 0xF2#8] = .instr .set6_D [] ∧
    decode [0xCB#8, 0xF3#8] = .instr .set6_E [] ∧
    decode [0xCB#8, 0xF4#8] = .instr .set6_H [] ∧
    decode [0xCB#8, 0xF5#8] = .instr .set6_L [] ∧
    decode [0xCB#8, 0xF6#8] = .instr .set6_AtHL [] ∧
    decode [0xCB#8, 0xF7#8] = .instr .set6_A [] ∧
    decode [0xCB#8, 0xF8#8] = .instr .set7_B [] ∧
    decode [0xCB#8, 0xF9#8] = .instr .set7_C [] ∧
    decode [0xCB#8, 0xFA#8] = .instr .set7_D [] ∧
    decode [0xCB#8, 0xFB#8] = .instr .set7_E [] ∧
    decode [0xCB#8, 0xFC#8] = .instr .set7_H [] ∧
    decode [0xCB#8, 0xFD#8] = .instr .set7_L [] ∧
    decode [0xCB#8, 0xFE#8] = .instr .set7_AtHL [] ∧
    decode [0xCB#8, 0xFF#8] = .instr .set7_A [] := by
  decide

/-- Four bytes: the decoder takes the instruction's own and leaves the rest. -/
theorem test_decode_leaves_rest :
    decode [0x06#8, 0x01#8, 0xCB#8, 0x7C#8] = .instr (.ldB_d8 0x01#8) [0xCB#8, 0x7C#8] ∧
    decode [0xCB#8, 0x7C#8, 0x76#8] = .instr .bit7_H [0x76#8] ∧
    decode [0x76#8, 0xC3#8] = .instr .halt [0xC3#8] := by
  decide

/-- Too few bytes are rejected, by name: none, a prefix alone, an immediate cut short. -/
theorem test_decode_too_short :
    (match decode [] with | .rejected _ => true | .instr _ _ => false) = true ∧
    (match decode [0xCB#8] with | .rejected _ => true | .instr _ _ => false) = true ∧
    (match decode [0xC3#8, 0x50#8] with | .rejected _ => true | .instr _ _ => false) = true := by
  decide

/-- The table's words, first byte in bits 7..0 and the prefix byte of a two-byte word in bits 15..8. -/
theorem test_decodeTableWord :
    decodeTableWord 8 0x41 = some .ldB_C ∧ decodeTableWord 16 0xCB1F = some .rrA ∧
    decodeTableWord 8 0xC3 = some (.jp_a16 0x0000#16) ∧ decodeTableWord 8 0xFD = some .undefFD := by
  decide

/-- The lengths of R157: three, two and one bytes. -/
theorem test_instrLength :
    [0x01, 0x08, 0xC2, 0xC3, 0xC4, 0xCD, 0xEA, 0xFA].all (fun op => instrLength (BitVec.ofNat 8 op) = 3) = true ∧
    [0x06, 0x10, 0x18, 0x20, 0xC6, 0xCB, 0xE0, 0xE8, 0xF0, 0xF8, 0xFE].all
      (fun op => instrLength (BitVec.ofNat 8 op) = 2) = true ∧
    [0x00, 0x02, 0x27, 0x40, 0x76, 0xBF, 0xC0, 0xC1, 0xC7, 0xD3, 0xD9, 0xE9, 0xFD].all
      (fun op => instrLength (BitVec.ofNat 8 op) = 1) = true := by
  decide

/-- WellFormed refuses the prefix row's own term, whose bytes are the extended instruction's (R141). -/
theorem test_prefixCB_ill_formed : (Instr.prefixCB 0x37#8).wellFormed = false ∧ Instr.swapA.wellFormed = true ∧
    encode (.prefixCB 0x37#8) = encode .swapA ∧ decode (encode (.prefixCB 0x37#8)) = .instr .swapA [] := by
  decide

/-! ## One step of each kind of instruction (spec/95_test_vectors.md, Part 2) -/

/-- The vectors' machine with code at 0x0150: kind NONE, every register and all RAM 0. -/
def at150 (code : List Byte) : State := ({ State.reset with pc := 0x0150#16 } : State).placeBytes 0x0150#16 code

/-- That machine with one byte of RAM preset. -/
def at150With (code : List Byte) (m : List (Word × Byte)) : State :=
  m.foldl (fun s x => s.placeByte x.1 x.2) (at150 code)

/-- Whether a step gives a next state of which `p` holds. -/
def gives (r : Result) (p : State → Bool) : Bool :=
  match r with
  | .next t => p t
  | .fault _ => false
  | .refused _ => false

/-- LD B,C (R200). -/
theorem test_V_LD8_1 :
    gives (step { at150 [0x41#8] with c := 0x5A#8 })
    (fun t =>
      t.b == 0x5A#8 && t.pc == 0x0151#16 && t.f == 0x00#8 && t.cycles == 4 && t.events == []) = true := by
  decide

/-- LD E,0x42 (R201). -/
theorem test_V_LD8_3 :
    gives (step (at150 [0x1E#8, 0x42#8]))
    (fun t =>
      t.e == 0x42#8 && t.pc == 0x0152#16 && t.f == 0x00#8 && t.cycles == 8 && t.events == []) = true := by
  decide

/-- LD H,(HL) (R202). -/
theorem test_V_LD8_4 :
    gives (step { at150With [0x66#8] [(0xC010#16, 0xD1#8)] with h := 0xC0#8, l := 0x10#8 })
    (fun t =>
      t.h == 0xD1#8 && t.pc == 0x0151#16 && t.f == 0x00#8 && t.cycles == 8 && t.events == []) = true := by
  decide

/-- LD (HL),E (R203). -/
theorem test_V_LD8_5 :
    gives (step { at150 [0x73#8] with e := 0x99#8, h := 0xC0#8, l := 0x20#8 })
    (fun t =>
      t.pc == 0x0151#16 && t.readByte 0xC020#16 == 0x99#8 && t.f == 0x00#8 && t.cycles == 8 &&
      t.events == []) = true := by
  decide

/-- LD (HL),L (R203). -/
theorem test_V_LD8_6 :
    gives (step { at150 [0x75#8] with h := 0x20#8 })
    (fun t =>
      t.pc == 0x0151#16 && t.f == 0x00#8 && t.cycles == 8 && t.events.length == 1) = true := by
  decide

/-- LD (HL),0x7E (R204). -/
theorem test_V_LD8_7 :
    gives (step { at150 [0x36#8, 0x7E#8] with h := 0xDF#8, l := 0xFF#8 })
    (fun t =>
      t.pc == 0x0152#16 && t.readByte 0xDFFF#16 == 0x7E#8 && t.f == 0x00#8 && t.cycles == 12 &&
      t.events == []) = true := by
  decide

/-- LD A,(BC) (R205). -/
theorem test_V_LD8_8 :
    gives (step { at150With [0x0A#8] [(0xC100#16, 0x12#8)] with b := 0xC1#8 })
    (fun t =>
      t.a == 0x12#8 && t.pc == 0x0151#16 && t.f == 0x00#8 && t.cycles == 8 && t.events == []) = true := by
  decide

/-- LD A,(DE) (R206). -/
theorem test_V_LD8_9 :
    gives (step { at150 [0x1A#8] with d := 0xFE#8, e := 0xA0#8 })
    (fun t =>
      t.a == 0xFF#8 && t.pc == 0x0151#16 && t.f == 0x00#8 && t.cycles == 8 && t.events.length == 1) = true := by
  decide

/-- LD (BC),A (R207). -/
theorem test_V_LD8_10 :
    gives (step { at150 [0x02#8] with a := 0x77#8, b := 0xFE#8 })
    (fun t =>
      t.pc == 0x0151#16 && t.readByte 0xFE00#16 == 0x77#8 && t.f == 0x00#8 && t.cycles == 8 &&
      t.events == []) = true := by
  decide

/-- LD (DE),A (R208). -/
theorem test_V_LD8_11 :
    gives (step { at150 [0x12#8] with a := 0x55#8, d := 0xE1#8, e := 0x23#8 })
    (fun t =>
      t.pc == 0x0151#16 && t.readByte 0xE123#16 == 0x55#8 && t.f == 0x00#8 && t.cycles == 8 &&
      t.events == []) = true := by
  decide

/-- LD A,(0xC123) (R209). -/
theorem test_V_LD8_12 :
    gives (step (at150With [0xFA#8, 0x23#8, 0xC1#8] [(0xC123#16, 0x55#8)]))
    (fun t =>
      t.a == 0x55#8 && t.pc == 0x0153#16 && t.f == 0x00#8 && t.cycles == 16 && t.events == []) = true := by
  decide

/-- LD (0xFF80),A (R210). -/
theorem test_V_LD8_13 :
    gives (step { at150 [0xEA#8, 0x80#8, 0xFF#8] with a := 0xAB#8 })
    (fun t =>
      t.pc == 0x0153#16 && t.readByte 0xFF80#16 == 0xAB#8 && t.f == 0x00#8 && t.cycles == 16 &&
      t.events == []) = true := by
  decide

/-- LDH A,(0x0F) (R211). -/
theorem test_V_LD8_14 :
    gives (step { at150 [0xF0#8, 0x0F#8] with ifReg := 0xE5#8 })
    (fun t =>
      t.a == 0xE5#8 && t.pc == 0x0152#16 && t.f == 0x00#8 && t.cycles == 12 && t.events == []) = true := by
  decide

/-- LDH (0xFF),A (R212). -/
theorem test_V_LD8_15 :
    gives (step { at150 [0xE0#8, 0xFF#8] with a := 0x1F#8 })
    (fun t =>
      t.pc == 0x0152#16 && t.ieReg == 0x1F#8 && t.readByte 0xFFFF#16 == 0x1F#8 && t.f == 0x00#8 &&
      t.cycles == 12 && t.events == []) = true := by
  decide

/-- LD A,(C) (R213). -/
theorem test_V_LD8_16 :
    gives (step { at150With [0xF2#8] [(0xFF85#16, 0x3C#8)] with c := 0x85#8 })
    (fun t =>
      t.a == 0x3C#8 && t.pc == 0x0151#16 && t.f == 0x00#8 && t.cycles == 8 && t.events == []) = true := by
  decide

/-- LD (C),A (R214). -/
theorem test_V_LD8_17 :
    gives (step { at150 [0xE2#8] with a := 0x01#8, c := 0x50#8 })
    (fun t =>
      t.pc == 0x0151#16 && t.f == 0x00#8 && t.cycles == 8 && t.events == []) = true := by
  decide

/-- LD (HL+),A (R215). -/
theorem test_V_LD8_18 :
    gives (step { at150 [0x22#8] with a := 0x09#8, h := 0xFF#8, l := 0xFF#8 })
    (fun t =>
      t.h == 0x00#8 && t.l == 0x00#8 && t.pc == 0x0151#16 && t.ieReg == 0x09#8 &&
      t.readByte 0xFFFF#16 == 0x09#8 && t.f == 0x00#8 && t.cycles == 8 && t.events == []) = true := by
  decide

/-- LD A,(HL+) (R216). -/
theorem test_V_LD8_19 :
    gives (step { at150With [0x2A#8] [(0xC0FF#16, 0x44#8)] with h := 0xC0#8, l := 0xFF#8 })
    (fun t =>
      t.a == 0x44#8 && t.h == 0xC1#8 && t.l == 0x00#8 && t.pc == 0x0151#16 && t.f == 0x00#8 && t.cycles == 8 &&
      t.events == []) = true := by
  decide

/-- LD (HL-),A (R217). -/
theorem test_V_LD8_20 :
    gives (step { at150 [0x32#8] with a := 0x66#8, h := 0xC0#8 })
    (fun t =>
      t.h == 0xBF#8 && t.l == 0xFF#8 && t.pc == 0x0151#16 && t.readByte 0xC000#16 == 0x66#8 && t.f == 0x00#8 &&
      t.cycles == 8 && t.events == []) = true := by
  decide

/-- LD A,(HL-) (R218). -/
theorem test_V_LD8_21 :
    gives (step (at150 [0x3A#8]))
    (fun t =>
      t.h == 0xFF#8 && t.l == 0xFF#8 && t.pc == 0x0151#16 && t.f == 0x00#8 && t.cycles == 8 &&
      t.events == []) = true := by
  decide

/-- LD BC,0x1234 (R230). -/
theorem test_V_LD16_1 :
    gives (step (at150 [0x01#8, 0x34#8, 0x12#8]))
    (fun t =>
      t.b == 0x12#8 && t.c == 0x34#8 && t.pc == 0x0153#16 && t.f == 0x00#8 && t.cycles == 12 &&
      t.events == []) = true := by
  decide

/-- LD (0xC100),SP (R231). -/
theorem test_V_LD16_3 :
    gives (step { at150 [0x08#8, 0x00#8, 0xC1#8] with sp := 0xFFF8#16 })
    (fun t =>
      t.pc == 0x0153#16 && t.readByte 0xC100#16 == 0xF8#8 && t.readByte 0xC101#16 == 0xFF#8 && t.f == 0x00#8 &&
      t.sp == 0xFFF8#16 && t.cycles == 20 && t.events == []) = true := by
  decide

/-- LD SP,HL (R232). -/
theorem test_V_LD16_4 :
    gives (step { at150 [0xF9#8] with h := 0xD0#8 })
    (fun t =>
      t.sp == 0xD000#16 && t.pc == 0x0151#16 && t.f == 0x00#8 && t.cycles == 8 && t.events == []) = true := by
  decide

/-- PUSH BC (R234). -/
theorem test_V_LD16_5 :
    gives (step { at150 [0xC5#8] with b := 0x12#8, c := 0x34#8, sp := 0xFFFE#16 })
    (fun t =>
      t.sp == 0xFFFC#16 && t.pc == 0x0151#16 && t.readByte 0xFFFC#16 == 0x34#8 &&
      t.readByte 0xFFFD#16 == 0x12#8 && t.f == 0x00#8 && t.cycles == 16 && t.events == []) = true := by
  decide

/-- POP DE (R235). -/
theorem test_V_LD16_6 :
    gives (step { at150With [0xD1#8] [(0xFFFC#16, 0x34#8), (0xFFFD#16, 0x12#8)] with sp := 0xFFFC#16 })
    (fun t =>
      t.d == 0x12#8 && t.e == 0x34#8 && t.sp == 0xFFFE#16 && t.pc == 0x0151#16 && t.f == 0x00#8 &&
      t.cycles == 12 && t.events == []) = true := by
  decide

/-- POP AF (R235). -/
theorem test_V_LD16_8 :
    gives (step { at150With [0xF1#8] [(0xC000#16, 0xFF#8), (0xC001#16, 0x12#8)] with sp := 0xC000#16 })
    (fun t =>
      t.a == 0x12#8 && t.f == 0xF0#8 && t.sp == 0xC002#16 && t.pc == 0x0151#16 && t.cycles == 12 &&
      t.events == []) = true := by
  decide

/-- PUSH HL (R234). -/
theorem test_V_LD16_9 :
    gives (step { at150 [0xE5#8] with h := 0xAB#8, l := 0xCD#8, sp := 0x0001#16 })
    (fun t =>
      t.sp == 0xFFFF#16 && t.pc == 0x0151#16 && t.ieReg == 0xCD#8 && t.readByte 0xFFFF#16 == 0xCD#8 &&
      t.f == 0x00#8 && t.cycles == 16 && t.events.length == 1) = true := by
  decide

/-- LD HL,SP+0x08 (R233). -/
theorem test_V_LD16_10 :
    gives (step { at150 [0xF8#8, 0x08#8] with h := 0x11#8, l := 0x11#8, sp := 0xFFF8#16 })
    (fun t =>
      t.f == 0x30#8 && t.h == 0x00#8 && t.l == 0x00#8 && t.pc == 0x0152#16 && t.sp == 0xFFF8#16 &&
      t.cycles == 12 && t.events == []) = true := by
  decide

/-- ADD A,B (R254). -/
theorem test_V_ALU_1 :
    gives (step { at150 [0x80#8] with a := 0x3A#8, b := 0xC6#8 })
    (fun t =>
      t.a == 0x00#8 && t.f == 0xB0#8 && t.pc == 0x0151#16 && t.cycles == 4 && t.events == []) = true := by
  decide

/-- ADD A,0xF0 (R256). -/
theorem test_V_ALU_3 :
    gives (step { at150 [0xC6#8, 0xF0#8] with a := 0x20#8 })
    (fun t =>
      t.a == 0x10#8 && t.f == 0x10#8 && t.pc == 0x0152#16 && t.cycles == 8 && t.events == []) = true := by
  decide

/-- ADC A,B (R257). -/
theorem test_V_ALU_5 :
    gives (step { at150 [0x88#8] with a := 0xFF#8, f := 0x10#8 })
    (fun t =>
      t.a == 0x00#8 && t.f == 0xB0#8 && t.pc == 0x0151#16 && t.cycles == 4 && t.events == []) = true := by
  decide

/-- ADC A,0x0F (R259). -/
theorem test_V_ALU_6 :
    gives (step { at150 [0xCE#8, 0x0F#8] with f := 0x10#8 })
    (fun t =>
      t.a == 0x10#8 && t.f == 0x20#8 && t.pc == 0x0152#16 && t.cycles == 8 && t.events == []) = true := by
  decide

/-- SUB B (R260). -/
theorem test_V_ALU_7 :
    gives (step { at150 [0x90#8] with a := 0x10#8, b := 0x01#8 })
    (fun t =>
      t.a == 0x0F#8 && t.f == 0x60#8 && t.pc == 0x0151#16 && t.cycles == 4 && t.events == []) = true := by
  decide

/-- SBC A,B (R263). -/
theorem test_V_ALU_8 :
    gives (step { at150 [0x98#8] with a := 0x10#8, b := 0x0F#8, f := 0x10#8 })
    (fun t =>
      t.a == 0x00#8 && t.f == 0xE0#8 && t.pc == 0x0151#16 && t.cycles == 4 && t.events == []) = true := by
  decide

/-- AND A (R266). -/
theorem test_V_ALU_9 :
    gives (step (at150 [0xA7#8]))
    (fun t =>
      t.f == 0xA0#8 && t.pc == 0x0151#16 && t.cycles == 4 && t.events == []) = true := by
  decide

/-- XOR A (R269). -/
theorem test_V_ALU_10 :
    gives (step (at150 [0xAF#8]))
    (fun t =>
      t.f == 0x80#8 && t.pc == 0x0151#16 && t.cycles == 4 && t.events == []) = true := by
  decide

/-- OR A (R272). -/
theorem test_V_ALU_12 :
    gives (step { at150 [0xB7#8] with f := 0x70#8 })
    (fun t =>
      t.f == 0x80#8 && t.pc == 0x0151#16 && t.cycles == 4 && t.events == []) = true := by
  decide

/-- CP 0x40 (R277). -/
theorem test_V_ALU_13 :
    gives (step { at150 [0xFE#8, 0x40#8] with a := 0x3C#8 })
    (fun t =>
      t.f == 0x50#8 && t.pc == 0x0152#16 && t.cycles == 8 && t.events == []) = true := by
  decide

/-- ADD A,(HL) (R255). -/
theorem test_V_ALU_15 :
    gives (step { at150 [0x86#8] with a := 0x01#8, h := 0xA0#8 })
    (fun t =>
      t.a == 0x00#8 && t.f == 0xB0#8 && t.pc == 0x0151#16 && t.cycles == 8 && t.events.length == 1) = true := by
  decide

/-- INC A (R278). -/
theorem test_V_ALU_16 :
    gives (step { at150 [0x3C#8] with a := 0xFF#8, f := 0x10#8 })
    (fun t =>
      t.a == 0x00#8 && t.f == 0xB0#8 && t.pc == 0x0151#16 && t.cycles == 4 && t.events == []) = true := by
  decide

/-- DEC B (R280). -/
theorem test_V_ALU_17 :
    gives (step { at150 [0x05#8] with f := 0x10#8 })
    (fun t =>
      t.b == 0xFF#8 && t.f == 0x70#8 && t.pc == 0x0151#16 && t.cycles == 4 && t.events == []) = true := by
  decide

/-- INC (HL) (R279). -/
theorem test_V_ALU_19 :
    gives (step { at150With [0x34#8] [(0xC000#16, 0x0F#8)] with h := 0xC0#8 })
    (fun t =>
      t.f == 0x20#8 && t.pc == 0x0151#16 && t.readByte 0xC000#16 == 0x10#8 && t.cycles == 12 &&
      t.events == []) = true := by
  decide

/-- DEC (HL) (R281). -/
theorem test_V_ALU_20 :
    gives (step { at150 [0x35#8] with h := 0xFF#8, l := 0x0F#8, ifReg := 0x01#8 })
    (fun t =>
      t.f == 0xC0#8 && t.pc == 0x0151#16 && t.ifReg == 0x00#8 && t.readByte 0xFF0F#16 == 0x00#8 &&
      t.cycles == 12 && t.events == []) = true := by
  decide

/-- DAA (R282). -/
theorem test_V_ALU_23 :
    gives (step { at150 [0x27#8] with a := 0x9A#8 })
    (fun t =>
      t.a == 0x00#8 && t.f == 0x90#8 && t.pc == 0x0151#16 && t.cycles == 4 && t.events == []) = true := by
  decide

/-- CPL (R283). -/
theorem test_V_ALU_25 :
    gives (step { at150 [0x2F#8] with a := 0xFF#8, f := 0x90#8 })
    (fun t =>
      t.a == 0x00#8 && t.f == 0xF0#8 && t.pc == 0x0151#16 && t.cycles == 4 && t.events == []) = true := by
  decide

/-- SCF (R284). -/
theorem test_V_ALU_26 :
    gives (step { at150 [0x37#8] with f := 0xE0#8 })
    (fun t =>
      t.f == 0x90#8 && t.pc == 0x0151#16 && t.cycles == 4 && t.events == []) = true := by
  decide

/-- CCF (R285). -/
theorem test_V_ALU_27 :
    gives (step { at150 [0x3F#8] with f := 0xF0#8 })
    (fun t =>
      t.f == 0x80#8 && t.pc == 0x0151#16 && t.cycles == 4 && t.events == []) = true := by
  decide

/-- SBC A,0xFF (R265). -/
theorem test_V_ALU_29 :
    gives (step { at150 [0xDE#8, 0xFF#8] with a := 0x42#8, f := 0x10#8 })
    (fun t =>
      t.f == 0x70#8 && t.pc == 0x0152#16 && t.cycles == 8 && t.events == []) = true := by
  decide

/-- ADD HL,BC (R301). -/
theorem test_V_A16_1 :
    gives (step { at150 [0x09#8] with b := 0x06#8, c := 0x05#8, f := 0x80#8, h := 0x8A#8, l := 0x23#8 })
    (fun t =>
      t.f == 0xA0#8 && t.h == 0x90#8 && t.l == 0x28#8 && t.pc == 0x0151#16 && t.cycles == 8 &&
      t.events == []) = true := by
  decide

/-- ADD HL,HL (R301). -/
theorem test_V_A16_2 :
    gives (step { at150 [0x29#8] with h := 0x88#8 })
    (fun t =>
      t.f == 0x30#8 && t.h == 0x10#8 && t.pc == 0x0151#16 && t.cycles == 8 && t.events == []) = true := by
  decide

/-- ADD HL,SP (R301). -/
theorem test_V_A16_3 :
    gives (step { at150 [0x39#8] with h := 0xFF#8, l := 0xFF#8, sp := 0x0001#16 })
    (fun t =>
      t.f == 0x30#8 && t.h == 0x00#8 && t.l == 0x00#8 && t.pc == 0x0151#16 && t.sp == 0x0001#16 &&
      t.cycles == 8 && t.events == []) = true := by
  decide

/-- ADD HL,DE (R301). -/
theorem test_V_A16_4 :
    gives (step { at150 [0x19#8] with e := 0x01#8, f := 0x50#8, h := 0x0F#8, l := 0xFF#8 })
    (fun t =>
      t.f == 0x20#8 && t.h == 0x10#8 && t.l == 0x00#8 && t.pc == 0x0151#16 && t.cycles == 8 &&
      t.events == []) = true := by
  decide

/-- INC DE (R302). -/
theorem test_V_A16_5 :
    gives (step { at150 [0x13#8] with d := 0xFF#8, e := 0xFF#8, f := 0xF0#8 })
    (fun t =>
      t.d == 0x00#8 && t.e == 0x00#8 && t.pc == 0x0151#16 && t.f == 0xF0#8 && t.cycles == 8 &&
      t.events == []) = true := by
  decide

/-- DEC BC (R303). -/
theorem test_V_A16_6 :
    gives (step (at150 [0x0B#8]))
    (fun t =>
      t.b == 0xFF#8 && t.c == 0xFF#8 && t.pc == 0x0151#16 && t.f == 0x00#8 && t.cycles == 8 &&
      t.events == []) = true := by
  decide

/-- ADD SP,+2 (R304). -/
theorem test_V_A16_8 :
    gives (step { at150 [0xE8#8, 0x02#8] with sp := 0xFFF8#16 })
    (fun t =>
      t.sp == 0xFFFA#16 && t.pc == 0x0152#16 && t.f == 0x00#8 && t.cycles == 16 && t.events == []) = true := by
  decide

/-- ADD SP,-1 (R304). -/
theorem test_V_A16_10 :
    gives (step { at150 [0xE8#8, 0xFF#8] with sp := 0x0100#16 })
    (fun t =>
      t.sp == 0x00FF#16 && t.pc == 0x0152#16 && t.f == 0x00#8 && t.cycles == 16 && t.events == []) = true := by
  decide

/-- RLCA (R311). -/
theorem test_V_ROT_1 :
    gives (step { at150 [0x07#8] with a := 0x85#8 })
    (fun t =>
      t.a == 0x0B#8 && t.f == 0x10#8 && t.pc == 0x0151#16 && t.cycles == 4 && t.events == []) = true := by
  decide

/-- RRCA (R312). -/
theorem test_V_ROT_3 :
    gives (step { at150 [0x0F#8] with a := 0x3B#8 })
    (fun t =>
      t.a == 0x9D#8 && t.f == 0x10#8 && t.pc == 0x0151#16 && t.cycles == 4 && t.events == []) = true := by
  decide

/-- RLA (R313). -/
theorem test_V_ROT_4 :
    gives (step { at150 [0x17#8] with a := 0x95#8, f := 0x10#8 })
    (fun t =>
      t.a == 0x2B#8 && t.pc == 0x0151#16 && t.f == 0x10#8 && t.cycles == 4 && t.events == []) = true := by
  decide

/-- RRA (R314). -/
theorem test_V_ROT_5 :
    gives (step { at150 [0x1F#8] with a := 0x81#8 })
    (fun t =>
      t.a == 0x40#8 && t.f == 0x10#8 && t.pc == 0x0151#16 && t.cycles == 4 && t.events == []) = true := by
  decide

/-- RLC A (R315). -/
theorem test_V_ROT_6 :
    gives (step { at150 [0xCB#8, 0x07#8] with f := 0x10#8 })
    (fun t =>
      t.f == 0x80#8 && t.pc == 0x0152#16 && t.cycles == 8 && t.events == []) = true := by
  decide

/-- RRC C (R317). -/
theorem test_V_ROT_7 :
    gives (step { at150 [0xCB#8, 0x09#8] with c := 0x01#8 })
    (fun t =>
      t.c == 0x80#8 && t.f == 0x10#8 && t.pc == 0x0152#16 && t.cycles == 8 && t.events == []) = true := by
  decide

/-- RL L (R319). -/
theorem test_V_ROT_8 :
    gives (step { at150 [0xCB#8, 0x15#8] with l := 0x80#8 })
    (fun t =>
      t.f == 0x90#8 && t.l == 0x00#8 && t.pc == 0x0152#16 && t.cycles == 8 && t.events == []) = true := by
  decide

/-- RR A (R321). -/
theorem test_V_ROT_9 :
    gives (step { at150 [0xCB#8, 0x1F#8] with a := 0x01#8 })
    (fun t =>
      t.a == 0x00#8 && t.f == 0x90#8 && t.pc == 0x0152#16 && t.cycles == 8 && t.events == []) = true := by
  decide

/-- SLA D (R323). -/
theorem test_V_ROT_10 :
    gives (step { at150 [0xCB#8, 0x22#8] with d := 0x80#8, f := 0x10#8 })
    (fun t =>
      t.d == 0x00#8 && t.f == 0x90#8 && t.pc == 0x0152#16 && t.cycles == 8 && t.events == []) = true := by
  decide

/-- SRA A (R325). -/
theorem test_V_ROT_11 :
    gives (step { at150 [0xCB#8, 0x2F#8] with a := 0x8A#8 })
    (fun t =>
      t.a == 0xC5#8 && t.pc == 0x0152#16 && t.f == 0x00#8 && t.cycles == 8 && t.events == []) = true := by
  decide

/-- SWAP A (R327). -/
theorem test_V_ROT_12 :
    gives (step { at150 [0xCB#8, 0x37#8] with a := 0xF1#8, f := 0x10#8 })
    (fun t =>
      t.a == 0x1F#8 && t.f == 0x00#8 && t.pc == 0x0152#16 && t.cycles == 8 && t.events == []) = true := by
  decide

/-- SRL B (R329). -/
theorem test_V_ROT_13 :
    gives (step { at150 [0xCB#8, 0x38#8] with b := 0x01#8 })
    (fun t =>
      t.b == 0x00#8 && t.f == 0x90#8 && t.pc == 0x0152#16 && t.cycles == 8 && t.events == []) = true := by
  decide

/-- RLC (HL) (R316). -/
theorem test_V_ROT_14 :
    gives (step { at150With [0xCB#8, 0x06#8] [(0xC000#16, 0x80#8)] with h := 0xC0#8 })
    (fun t =>
      t.f == 0x10#8 && t.pc == 0x0152#16 && t.readByte 0xC000#16 == 0x01#8 && t.cycles == 16 &&
      t.events == []) = true := by
  decide

/-- SWAP (HL) (R328). -/
theorem test_V_ROT_15 :
    gives (step { at150With [0xCB#8, 0x36#8] [(0xC000#16, 0xF0#8)] with h := 0xC0#8 })
    (fun t =>
      t.pc == 0x0152#16 && t.readByte 0xC000#16 == 0x0F#8 && t.f == 0x00#8 && t.cycles == 16 &&
      t.events == []) = true := by
  decide

/-- BIT 7,A (R340). -/
theorem test_V_BIT_1 :
    gives (step { at150 [0xCB#8, 0x7F#8] with a := 0x80#8, f := 0x10#8 })
    (fun t =>
      t.f == 0x30#8 && t.pc == 0x0152#16 && t.cycles == 8 && t.events == []) = true := by
  decide

/-- BIT 4,L (R340). -/
theorem test_V_BIT_2 :
    gives (step { at150 [0xCB#8, 0x65#8] with l := 0xEF#8 })
    (fun t =>
      t.f == 0xA0#8 && t.pc == 0x0152#16 && t.cycles == 8 && t.events == []) = true := by
  decide

/-- BIT 0,(HL) (R341). -/
theorem test_V_BIT_3 :
    gives (step { at150With [0xCB#8, 0x46#8] [(0xC000#16, 0xFE#8)] with h := 0xC0#8 })
    (fun t =>
      t.f == 0xA0#8 && t.pc == 0x0152#16 && t.cycles == 12 && t.events == []) = true := by
  decide

/-- BIT 3,(HL) (R341). -/
theorem test_V_BIT_4 :
    gives (step { at150 [0xCB#8, 0x5E#8] with f := 0x80#8, h := 0xFE#8, l := 0xA0#8 })
    (fun t =>
      t.f == 0x20#8 && t.pc == 0x0152#16 && t.cycles == 12 && t.events.length == 1) = true := by
  decide

/-- RES 7,A (R342). -/
theorem test_V_BIT_5 :
    gives (step { at150 [0xCB#8, 0xBF#8] with a := 0xFF#8, f := 0xF0#8 })
    (fun t =>
      t.a == 0x7F#8 && t.pc == 0x0152#16 && t.f == 0xF0#8 && t.cycles == 8 && t.events == []) = true := by
  decide

/-- RES 3,(HL) (R343). -/
theorem test_V_BIT_6 :
    gives (step { at150With [0xCB#8, 0x9E#8] [(0xC000#16, 0xFF#8)] with h := 0xC0#8 })
    (fun t =>
      t.pc == 0x0152#16 && t.readByte 0xC000#16 == 0xF7#8 && t.f == 0x00#8 && t.cycles == 16 &&
      t.events == []) = true := by
  decide

/-- SET 1,E (R344). -/
theorem test_V_BIT_7 :
    gives (step (at150 [0xCB#8, 0xCB#8]))
    (fun t =>
      t.e == 0x02#8 && t.pc == 0x0152#16 && t.f == 0x00#8 && t.cycles == 8 && t.events == []) = true := by
  decide

/-- SET 2,(HL) (R345). -/
theorem test_V_BIT_8 :
    gives (step { at150 [0xCB#8, 0xD6#8] with h := 0xFF#8, l := 0x0F#8 })
    (fun t =>
      t.pc == 0x0152#16 && t.ifReg == 0x04#8 && t.readByte 0xFF0F#16 == 0x04#8 && t.f == 0x00#8 &&
      t.cycles == 16 && t.events == []) = true := by
  decide

/-- JP 0x0150 (R351). -/
theorem test_V_CTL_1 :
    gives (step (({ State.reset with pc := 0x0100#16 } : State).placeBytes 0x0100#16 [0xC3#8, 0x50#8, 0x01#8]))
    (fun t =>
      t.pc == 0x0150#16 && t.f == 0x00#8 && t.cycles == 16 && t.events == []) = true := by
  decide

/-- JP Z,0x8000 (R352). -/
theorem test_V_CTL_2 :
    gives (step { at150 [0xCA#8, 0x00#8, 0x80#8] with f := 0x80#8 })
    (fun t =>
      t.pc == 0x8000#16 && t.f == 0x80#8 && t.cycles == 16 && t.events == []) = true := by
  decide

/-- JP HL (R353). -/
theorem test_V_CTL_4 :
    gives (step { at150 [0xE9#8] with h := 0x40#8 })
    (fun t =>
      t.pc == 0x4000#16 && t.f == 0x00#8 && t.cycles == 4 && t.events == []) = true := by
  decide

/-- JR +5 (R354). -/
theorem test_V_CTL_5 :
    gives (step (({ State.reset with pc := 0x0200#16 } : State).placeBytes 0x0200#16 [0x18#8, 0x05#8]))
    (fun t =>
      t.pc == 0x0207#16 && t.f == 0x00#8 && t.cycles == 12 && t.events == []) = true := by
  decide

/-- JR -2 (R354). -/
theorem test_V_CTL_6 :
    gives (step (({ State.reset with pc := 0x0200#16 } : State).placeBytes 0x0200#16 [0x18#8, 0xFE#8]))
    (fun t =>
      t.pc == 0x0200#16 && t.f == 0x00#8 && t.cycles == 12 && t.events == []) = true := by
  decide

/-- JR NZ,-4 (R355). -/
theorem test_V_CTL_7 :
    gives (step (at150 [0x20#8, 0xFC#8]))
    (fun t =>
      t.pc == 0x014E#16 && t.f == 0x00#8 && t.cycles == 12 && t.events == []) = true := by
  decide

/-- JR C,+0x7F (R355). -/
theorem test_V_CTL_9 :
    gives (step { at150 [0x38#8, 0x7F#8] with f := 0x10#8 })
    (fun t =>
      t.pc == 0x01D1#16 && t.f == 0x10#8 && t.cycles == 12 && t.events == []) = true := by
  decide

/-- CALL 0x1234 (R356). -/
theorem test_V_CTL_10 :
    gives (step { at150 [0xCD#8, 0x34#8, 0x12#8] with sp := 0xFFFE#16 })
    (fun t =>
      t.sp == 0xFFFC#16 && t.pc == 0x1234#16 && t.readByte 0xFFFC#16 == 0x53#8 &&
      t.readByte 0xFFFD#16 == 0x01#8 && t.f == 0x00#8 && t.cycles == 24 && t.events == []) = true := by
  decide

/-- CALL NC,0x2000 (R357). -/
theorem test_V_CTL_11 :
    gives (step { at150 [0xD4#8, 0x00#8, 0x20#8] with f := 0x10#8, sp := 0xD000#16 })
    (fun t =>
      t.pc == 0x0153#16 && t.f == 0x10#8 && t.sp == 0xD000#16 && t.cycles == 12 && t.events == []) = true := by
  decide

/-- RET (R358). -/
theorem test_V_CTL_12 :
    gives (step { at150With [0xC9#8] [(0xFFFC#16, 0x03#8), (0xFFFD#16, 0x80#8)] with sp := 0xFFFC#16 })
    (fun t =>
      t.sp == 0xFFFE#16 && t.pc == 0x8003#16 && t.f == 0x00#8 && t.cycles == 16 && t.events == []) = true := by
  decide

/-- RET C (R359). -/
theorem test_V_CTL_13 :
    gives (step { at150With [0xD8#8] [(0xC000#16, 0x07#8), (0xC001#16, 0x02#8)] with f := 0x10#8, sp := 0xC000#16 })
    (fun t =>
      t.sp == 0xC002#16 && t.pc == 0x0207#16 && t.f == 0x10#8 && t.cycles == 20 && t.events == []) = true := by
  decide

/-- RET NZ (R359). -/
theorem test_V_CTL_14 :
    gives (step { at150 [0xC0#8] with f := 0x80#8, sp := 0xC000#16 })
    (fun t =>
      t.pc == 0x0151#16 && t.f == 0x80#8 && t.sp == 0xC000#16 && t.cycles == 8 && t.events == []) = true := by
  decide

/-- RETI (R360). -/
theorem test_V_CTL_15 :
    gives (step { at150With [0xD9#8] [(0xFFFC#16, 0x50#8), (0xFFFD#16, 0x01#8)] with sp := 0xFFFC#16 })
    (fun t =>
      t.sp == 0xFFFE#16 && t.ime == true && t.pc == 0x0150#16 && t.f == 0x00#8 && t.cycles == 16 &&
      t.events == []) = true := by
  decide

/-- RST 0x28 (R361). -/
theorem test_V_CTL_16 :
    gives (step { at150 [0xEF#8] with sp := 0xFFFE#16 })
    (fun t =>
      t.sp == 0xFFFC#16 && t.pc == 0x0028#16 && t.readByte 0xFFFC#16 == 0x51#8 &&
      t.readByte 0xFFFD#16 == 0x01#8 && t.f == 0x00#8 && t.cycles == 16 && t.events == []) = true := by
  decide

/-- RST 0x38 (R361). -/
theorem test_V_CTL_17 :
    gives (step { ({ State.reset with pc := 0x3FFF#16 } : State).placeBytes 0x3FFF#16 [0xFF#8] with sp := 0xC002#16 })
    (fun t =>
      t.sp == 0xC000#16 && t.pc == 0x0038#16 && t.readByte 0xC000#16 == 0x00#8 &&
      t.readByte 0xC001#16 == 0x40#8 && t.f == 0x00#8 && t.cycles == 16 && t.events == []) = true := by
  decide

/-- NOP (R380). -/
theorem test_V_MISC_1 :
    gives (step { at150 [0x00#8] with f := 0xF0#8 })
    (fun t =>
      t.pc == 0x0151#16 && t.f == 0xF0#8 && t.cycles == 4 && t.events == []) = true := by
  decide

/-- STOP (R382). -/
theorem test_V_MISC_2 :
    gives (step (at150 [0x10#8, 0x00#8]))
    (fun t =>
      t.pc == 0x0152#16 && t.f == 0x00#8 && t.cycles == 4 && t.events == [.stopReq]) = true := by
  decide

/-- DI (R383). -/
theorem test_V_MISC_3 :
    gives (step { at150 [0xF3#8] with ime := true })
    (fun t =>
      t.pc == 0x0151#16 && t.ime == false && t.f == 0x00#8 && t.cycles == 4 && t.events == []) = true := by
  decide

/-- EI (R384). -/
theorem test_V_MISC_4 :
    gives (step (at150 [0xFB#8]))
    (fun t =>
      t.pc == 0x0151#16 && t.ime == true && t.f == 0x00#8 && t.cycles == 4 && t.events == []) = true := by
  decide

/-- (undefined 0xDD) (R387). -/
theorem test_V_MISC_5 :
    gives (step { at150 [0xDD#8] with a := 0x11#8, f := 0xF0#8 })
    (fun t =>
      t.pc == 0x0151#16 && t.f == 0xF0#8 && t.cycles == 0 && t.events == []) = true := by
  decide

/-- (service; document §8 scenario) (R400, R412, R418). -/
theorem test_V_INT_1 :
    gives (step { ({ State.reset with pc := 0x1234#16 } : State).placeBytes 0x1234#16 [0x00#8] with sp := 0xFFFE#16, ime := true, ifReg := 0x01#8, ieReg := 0x01#8 })
    (fun t =>
      t.sp == 0xFFFC#16 && t.pc == 0x0040#16 && t.ime == false && t.ifReg == 0x00#8 &&
      t.readByte 0xFFFC#16 == 0x34#8 && t.readByte 0xFFFD#16 == 0x12#8 && t.f == 0x00#8 && t.cycles == 16 &&
      t.events == []) = true := by
  decide

/-- (service, priority) (R411). -/
theorem test_V_INT_2 :
    gives (step { at150 [0x00#8] with sp := 0xD000#16, ime := true, ifReg := 0x1F#8, ieReg := 0x1C#8 })
    (fun t =>
      t.sp == 0xCFFE#16 && t.pc == 0x0050#16 && t.ime == false && t.ifReg == 0x1B#8 &&
      t.readByte 0xCFFE#16 == 0x50#8 && t.readByte 0xCFFF#16 == 0x01#8 && t.f == 0x00#8 && t.cycles == 16 &&
      t.events == []) = true := by
  decide

/-- NOP (IME = 0) (R400). -/
theorem test_V_INT_3 :
    gives (step { at150 [0x00#8] with sp := 0xD000#16, ifReg := 0x1F#8, ieReg := 0x1F#8 })
    (fun t =>
      t.pc == 0x0151#16 && t.f == 0x00#8 && t.sp == 0xD000#16 && t.cycles == 4 && t.events == []) = true := by
  decide

/-- NOP (upper bits) (R401). -/
theorem test_V_INT_5 :
    gives (step { at150 [0x00#8] with sp := 0xD000#16, ime := true, ifReg := 0xE0#8, ieReg := 0xE0#8 })
    (fun t =>
      t.pc == 0x0151#16 && t.f == 0x00#8 && t.sp == 0xD000#16 && t.cycles == 4 && t.events == []) = true := by
  decide

/-- (service, push onto IF) (R412). -/
theorem test_V_INT_6 :
    gives (step { ({ State.reset with pc := 0x02AB#16 } : State).placeBytes 0x02AB#16 [0x00#8] with sp := 0xFF11#16, ime := true, ifReg := 0x10#8, ieReg := 0x10#8 })
    (fun t =>
      t.sp == 0xFF0F#16 && t.pc == 0x0060#16 && t.ime == false && t.ifReg == 0xAB#8 && t.f == 0x00#8 &&
      t.cycles == 16 && t.events.length == 1 && t.ifReg == 0xAB#8) = true := by
  decide

/-- HALT; (wake and service) (R381, R417). -/
theorem test_V_HALT_4 :
    gives (step { ({ State.reset with pc := 0x0200#16 } : State).placeBytes 0x0200#16 [0x76#8] with sp := 0xD000#16, ime := true, ieReg := 0x04#8 })
    (fun t =>
      t.pc == 0x0201#16 && t.halted == true && t.f == 0x00#8 && t.sp == 0xD000#16 && t.cycles == 4 &&
      t.events == []) = true := by
  decide

/-- LD (HL),A (R93). -/
theorem test_V_MEM_2 :
    gives (step { at150 [0x77#8] with a := 0x01#8, h := 0xFE#8, l := 0xFF#8 })
    (fun t =>
      t.pc == 0x0151#16 && t.f == 0x00#8 && t.cycles == 8 && t.events.length == 1) = true := by
  decide

/-- LD A,(HL) (R95). -/
theorem test_V_MEM_3 :
    gives (step { at150 [0x7E#8] with h := 0xFF#8, l := 0x44#8 })
    (fun t =>
      t.a == 0xFF#8 && t.pc == 0x0151#16 && t.f == 0x00#8 && t.cycles == 8 && t.events.length == 1) = true := by
  decide

/-- LD (HL),A (R45). -/
theorem test_V_MEM_7 :
    gives (step { at150 [0x77#8] with a := 0x03#8, h := 0xFF#8, l := 0x70#8 })
    (fun t =>
      t.pc == 0x0151#16 && t.f == 0x00#8 && t.cycles == 8 && t.events.length == 1) = true := by
  decide

/-! ## Bank controllers and the header -/

/-- A machine with the given controller, eight ROM banks and four external RAM banks, as the vectors have it. -/
def banked (k : MbcKind) : State := State.resetWith { Params.standard with kind := k, nRom := 8, nEram := 4 }

/-- V-MBC-2, V-MBC-5, V-MBC-6 (T7): bank 0 is an alias of bank 1 on MBC1 and MBC3 and not on MBC5. -/
theorem test_V_MBC_alias : ((banked .mbc1).writeByte 0x2000#16 0x00#8).rom1Sel = 1 ∧
    ((banked .mbc3).writeByte 0x2000#16 0x00#8).rom1Sel = 1 ∧
    ((banked .mbc5).writeByte 0x2000#16 0x00#8).rom1Sel = 0 := by
  decide

/-- V-MBC-3: bank 11 masked with 7 is bank 3. V-MBC-8: (1 << 5) | 1 masked with 7 is bank 1. -/
theorem test_V_MBC_mask : ((banked .mbc1).writeByte 0x3FFF#16 0x0B#8).rom1Sel = 3 ∧
    ((banked .mbc1).writeByte 0x4000#16 0x01#8).rom1Sel = 1 := by
  decide

/-- V-MBC-4: the save request when the enable falls, the store dropped while it is clear. -/
theorem test_V_MBC_4 :
    let s := ((banked .mbc1).writeByte 0x0000#16 0x0A#8).writeByte 0xA000#16 0x5A#8
    let t := (s.writeByte 0x0000#16 0x00#8).writeByte 0xA000#16 0xA5#8
    t.events = [.saveReq] ∧ t.readByte 0xA000#16 = 0x5A#8 := by
  decide

/-- V-MBC-7: in mode 1 BANK_HI is the RAM bank. -/
theorem test_V_MBC_7 :
    let s := ((banked .mbc1).writeByte 0x6000#16 0x01#8).writeByte 0x4000#16 0x02#8
    s.eramSel = 2 ∧ ((s.writeByte 0x0000#16 0x0A#8).writeByte 0xA000#16 0xEE#8).eram = [(16384, 0xEE#8)] := by
  decide

/-- R119, R120: an MBC1 cartridge of 128 KiB with 32 KiB of external RAM; the header of the standard parameters. -/
theorem test_attach :
    let p := attach { Params.standard with rom := [(0x0147, 0x03#8), (0x0148, 0x02#8), (0x0149, 0x03#8)] }
    p.kind = .mbc1 ∧ p.nRom = 8 ∧ p.nEram = 4 ∧ p.attachFault = .none ∧ attach Params.standard = Params.standard := by
  decide

/-- A byte given to `withFetchWord` is the instruction the next step runs, right after reset. -/
theorem test_withFetchWord :
    gives (step (State.reset.withFetchWord 8 0x3C)) (fun t => t.a == 0x01#8 && t.pc == 0x0001#16) = true ∧
    gives (step (State.reset.withFetchWord 16 0xCBC7)) (fun t => t.a == 0x01#8 && t.pc == 0x0002#16) = true := by
  decide

/-- An outcome that `decide` finds to be a next state is one. -/
theorem completes {r : Result} (h : gives r (fun _ => true) = true) : ∃ t, r = .next t := by
  cases r with
  | next t => exact ⟨t, rfl⟩
  | fault _ => cases h
  | refused _ => cases h

/-! ## Witnesses: a state and operands that meet the hypotheses of each claim -/

theorem standard_ok : ParamsOk Params.standard := by
  constructor <;> first | rfl | exact ⟨1, by decide, rfl⟩ | exact .inl rfl

/-- Sound parameters at their largest (R119, R120): MBC5, 512 ROM banks, 16 external RAM banks, colour mode, the long
boot image. -/
def largest : Params :=
  { Params.standard with
    kind := .mbc5, nRom := 512, nEram := 16, colorMode := true, bootSize := .b2304
    boot := [(0, 0x31#8), (2303, 0x50#8)]
    rom := [(0, 0xC3#8), (8388607, 0xFF#8)]
    initVram := [(16383, 0x01#8)]
    eramInit := [(131071, 0x02#8)] }

/-- ResetValues. -/
theorem witness_params : ParamsOk largest := by
  constructor <;> first | decide | exact ⟨9, by decide, rfl⟩ | exact .inr ⟨4, rfl⟩

/-- A well-kept state between instructions: PC in RAM, the stack in RAM, HL in RAM. -/
def calm : State := { State.reset with pc := 0xC000#16, sp := 0xD000#16, h := 0xC1#8, d := 0xC2#8 }

theorem calm_inv : Inv calm := by
  constructor <;> first | exact standard_ok | exact trivial | decide

/-- That state with code at PC. -/
def calmAt (code : List Byte) : State := calm.placeBytes 0xC000#16 code

/-- EncodeThenDecode, EveryOpcodeDecodes. -/
theorem witness_EncodeThenDecode : (Instr.ldAtA16_SP 0xFFFF#16).wellFormed = true ∧ Instr.set7_A.wellFormed = true := by
  decide

/-- DecodeThenEncode, for a one-byte, an extended and a three-byte word. -/
theorem witness_DecodeThenEncode : decode [0xFF#8, 0x00#8] = .instr .rst38 [0x00#8] ∧
    decode [0xCB#8, 0xCB#8, 0xCB#8] = .instr .set1_E [0xCB#8] ∧
    decode [0xCD#8, 0xFF#8, 0xFF#8] = .instr (.call_a16 0xFFFF#16) [] := by
  decide

/-- StepRunsDecodedInstruction. -/
theorem witness_StepRunsDecodedInstruction :
    let s := calmAt [0x3E#8, 0x07#8]
    s.faultLatch = .none ∧ s.beginStep.wake.takesInterrupt = false ∧ s.beginStep.wake.halted = false ∧
      decode s.beginStep.wake.fetchBytes.1 = .instr (.ldA_d8 0x07#8) [] := by
  decide

/-- StepRunsStoredInstruction, with the three bytes of a jump across a bank boundary. -/
theorem witness_StepRunsStoredInstruction :
    let s := ({ calm with pc := 0xCFFE#16 } : State).placeBytes 0xCFFE#16 [0xC3#8, 0x50#8, 0x01#8]
    let i := Instr.jp_a16 0x0150#16
    let t := s.beginStep.wake
    i.wellFormed = true ∧ s.faultLatch = .none ∧ t.takesInterrupt = false ∧ t.halted = false ∧
      ∀ k, k < (encode i).length →
        ∃ x, t.cellAt (t.pc + BitVec.ofNat 16 k) = some x ∧ (encode i)[k]? = some (t.cell x) := by
  refine ⟨by decide, by decide, by decide, by decide, fun k hk => ?_⟩
  have h3 : k < 3 := hk
  match k, h3 with
  | 0, _ => exact ⟨(.wram, 4094), by decide, by decide⟩
  | 1, _ => exact ⟨(.wram, 4095), by decide, by decide⟩
  | 2, _ => exact ⟨(.wram, 4096), by decide, by decide⟩

/-- FetchReadsThroughTheDecoder, at the last byte of a three-byte instruction. -/
theorem witness_FetchReadsThroughTheDecoder :
    let s := calmAt [0xC3#8, 0x50#8, 0x01#8]
    2 < instrLength (s.readByte s.pc) ∧ s.forwards (s.pc + BitVec.ofNat 16 2) = false := by
  decide

/-- StepServicesLeastSource, for the first and for the last source. -/
theorem witness_StepServicesLeastSource :
    let s := { calm with ime := true, ieReg := 0xFF#8, ifReg := 0x1F#8 }
    let t := { calm with ime := true, ieReg := 0xFF#8, ifReg := 0x10#8 }
    (s.faultLatch = .none ∧ s.ime = true ∧ (s.beginStep.ieReg &&& s.beginStep.ifReg).getLsbD 0 = true) ∧
      (t.faultLatch = .none ∧ t.ime = true ∧ (t.beginStep.ieReg &&& t.beginStep.ifReg).getLsbD 4 = true ∧
        ∀ j, j < 4 → (t.beginStep.ieReg &&& t.beginStep.ifReg).getLsbD j = false) := by
  decide

/-- The document's scenario with the stack in working RAM. -/
def requested : State := { calm with ime := true, ieReg := 0x01#8, ifReg := 0x01#8 }

theorem requested_inv : Inv requested := by
  constructor <;> first | exact standard_ok | exact trivial | decide

/-- ServiceScenario, ServiceThenReturn. -/
theorem witness_ServiceScenario : Inv requested ∧ requested.faultLatch = .none ∧
    requested.beginStep.ifReg = 0x01#8 ∧ requested.ieReg = 0x01#8 ∧ requested.ime = true ∧
    requested.beginStep.wake.takesInterrupt = true ∧ requested.sp - 2 ≠ 0xFF0F#16 ∧ requested.sp - 1 ≠ 0xFF0F#16 ∧
    requested.isRam (requested.sp - 2) = true ∧ requested.isRam (requested.sp - 1) = true :=
  ⟨requested_inv, by decide⟩

/-- HaltParksOrWakes: pending with the master enable set, pending without, nothing pending. -/
theorem witness_HaltParksOrWakes :
    let s := { calm with halted := true, ieReg := 0x10#8, ifReg := 0x10#8 }
    let t := { calm with halted := true, ieReg := 0xE0#8, ifReg := 0xFF#8 }
    (s.faultLatch = .none ∧ s.halted = true ∧ s.beginStep.ieReg &&& s.beginStep.ifReg &&& 0x1F#8 ≠ 0#8 ∧
      s.ime = false ∧ ({ s with ime := true } : State).ime = true) ∧
    (t.faultLatch = .none ∧ t.halted = true ∧ t.beginStep.ieReg &&& t.beginStep.ifReg &&& 0x1F#8 = 0#8) := by
  decide

/-- StepStopsOnlyOnFault: attach leaves NONE, BAD_CART_TYPE and BAD_CART_SIZE; the third name stands in a latch. -/
theorem witness_StepStopsOnlyOnFault :
    (State.resetWith (attach { Params.standard with rom := [(0x0147, 0xFF#8)] })).faultLatch = .badCartType ∧
    (State.resetWith (attach { Params.standard with rom := [(0x0148, 0x09#8)] })).faultLatch = .badCartSize ∧
    (State.resetWith (attach { Params.standard with rom := [(0x0149, 0x06#8)] })).faultLatch = .badCartSize ∧
    ({ calm with faultLatch := .noHandler } : State).faultLatch = .noHandler ∧ calm.faultLatch = .none := by
  decide

/-- StepKeepsInv, and the first half of SessionConstants: a step from a well-kept state. -/
theorem witness_StepKeepsInv : Inv calm ∧ ∃ t, step calm = .next t :=
  ⟨calm_inv, completes (by decide)⟩

/-- InvKeepsBanksPresent, at the last byte of a switched bank and with the largest session. -/
theorem witness_InvKeepsBanksPresent : Inv (State.resetWith largest) ∧ (State.resetWith largest).par.nEram ≠ 0 ∧
    (State.resetWith largest).cellAt 0x7FFF#16 = some (.rom, 32767) ∧
    (State.resetWith largest).cellAt 0x08FF#16 = some (.boot, 2303) ∧
    (State.resetWith largest).cellAt 0xBFFF#16 = some (.eram, 8191) := by
  refine ⟨?_, by decide⟩
  constructor <;> first | exact witness_params | exact trivial | decide

/-- SessionConstants, second half: the store that clears the overlay. -/
theorem witness_SessionConstants : 0xFF50#16 ∈ storedAddresses calm (.ldhAtA8_A 0x50#8) ∧
    ∃ t, exec (.ldhAtA8_A 0x50#8) calm = .next t :=
  ⟨by decide, completes (by decide)⟩

/-- RunStateWriters, FlagSummary: every instruction completes, EI among them. -/
theorem witness_RunStateWriters : ∃ t, exec .ei calm = .next t := completes (by decide)

/-- RegisterFrame: a load of B leaves C. -/
theorem witness_RegisterFrame : (∃ t, exec .ldB_A calm = .next t) ∧ Reg8.c ∉ destRegs .ldB_A :=
  ⟨completes (by decide), by decide⟩

/-- FlagSummary, SpAndPcFrame: an instruction that writes no flag, neither SP nor PC, from a state with F's low nibble
zero. -/
theorem witness_SpAndPcFrame : (∃ t, exec .ldB_A calm = .next t) ∧ writesSp .ldB_A = false ∧
    writesPc .ldB_A = false ∧ flagRow .ldB_A = FlagRow.none ∧ calm.f &&& 0x0F#8 = 0#8 :=
  ⟨completes (by decide), by decide⟩

/-- CellFrame: PUSH BC stores to 0xCFFE and 0xCFFF and not to the cell of 0xD000. -/
theorem witness_CellFrame : (∃ t, exec .pushBC calm = .next t) ∧
    ∀ a, a ∈ storedAddresses calm .pushBC → calm.cellAt a ≠ some (.wram, 4096) := by
  refine ⟨completes (by decide), ?_⟩
  rw [show storedAddresses calm .pushBC = [0xCFFE#16, 0xCFFF#16] by decide]
  simp only [List.mem_cons, List.not_mem_nil, or_false, forall_eq_or_imp, forall_eq]
  decide

/-- ReadFrame: the same store does not reach 0xD000. -/
theorem witness_ReadFrame : (∃ t, exec .pushBC calm = .next t) ∧ calm.forwards 0xD000#16 = false ∧
    ∀ a, a ∈ storedAddresses calm .pushBC → ¬ calm.reaches a 0xD000#16 := by
  refine ⟨completes (by decide), by decide, fun a ha => ?_⟩
  rw [show storedAddresses calm .pushBC = [0xCFFE#16, 0xCFFF#16] by decide] at ha
  have h : a = 0xCFFE#16 ∨ a = 0xCFFF#16 := by simpa using ha
  rcases h with rfl | rfl
  · rintro ⟨x, hx, hy⟩
    cases hx
    revert hy
    decide
  · rintro ⟨x, hx, hy⟩
    cases hx
    revert hy
    decide

/-- ControlFrame: a store that touches no control register. -/
theorem witness_ControlFrame : (∃ t, exec .ldAtHL_A calm = .next t) ∧
    (∀ a, a ∈ storedAddresses calm .ldAtHL_A → 0x8000 ≤ a.toNat) ∧ 0xFF4F#16 ∉ storedAddresses calm .ldAtHL_A ∧
    0xFF70#16 ∉ storedAddresses calm .ldAtHL_A ∧ 0xFF0F#16 ∉ storedAddresses calm .ldAtHL_A ∧
    0xFFFF#16 ∉ storedAddresses calm .ldAtHL_A := by
  refine ⟨completes (by decide), ?_⟩
  rw [show storedAddresses calm .ldAtHL_A = [0xC100#16] by decide]
  simp only [List.mem_cons, List.not_mem_nil, or_false, forall_eq]
  decide

/-- LoadAccumulatorResult and StoreByteResult: each row of their lists. -/
theorem witness_LoadAccumulatorResult (s : State) (nn : Word) :
    (Instr.ldA_AtBC, s.bc, s.hl, 8) ∈ [(Instr.ldA_AtBC, s.bc, s.hl, 8), (.ldA_AtA16 nn, nn, s.hl, 16)] ∧
    (Instr.ldAtHLDec_A, s.hl, s.a, s.hl - 1, 8) ∈ [(Instr.ldAtHLDec_A, s.hl, s.a, s.hl - 1, 8)] :=
  ⟨List.mem_cons_self .., List.mem_cons_self ..⟩

/-- PushAndPopResult: the two bytes a POP reads. -/
theorem witness_PushAndPopResult :
    let s := calm.placeByte 0xD001#16 0x12#8
    0x00#8 = s.readByte s.sp ∧ 0x12#8 = (s.afterRead s.sp).readByte (s.sp + 1) := by
  decide

/-- AddResult, SubtractResult, LogicResult: an operand for each operation, with the carry set. -/
theorem witness_AddResult :
    let s := { calm with a := 0xFF#8, b := 0x01#8, f := 0x10#8 }
    (AluOp.adc = .adc ∧ 1 = s.flagC.toNat) ∧ (AluOp.sbc = .sbc ∧ 1 = s.flagC.toNat) ∧
      1 = (s.srcValue (.reg .b)).toNat ∧ 0x01#8 = s.a &&& s.srcValue (.reg .b) := by
  decide

/-- IncDecByteResult, RotateResult, BitResult: a register and another one, and the byte at HL. -/
theorem witness_IncDecByteResult :
    let s := calm.placeByte 0xC100#16 0x80#8
    0xC1#8 = s.reg .h ∧ Reg8.l ≠ Reg8.h ∧ 0x80#8 = s.readByte s.hl := by
  decide

/-- AccumulatorAdjustResult: the two corrections after an addition that needs both. -/
theorem witness_AccumulatorAdjustResult :
    let s := { calm with a := 0x9A#8 }
    (true = if s.flagN then s.flagC else s.flagC || decide (s.a.toNat > 0x99)) ∧
      (true = if s.flagN then s.flagH else s.flagH || decide (s.a.toNat % 16 > 9)) := by
  decide

/-- RotateResult: each of the four accumulator forms. -/
theorem witness_RotateResult :
    (Instr.rlca, RotKind.rlc) ∈ [(Instr.rlca, RotKind.rlc), (.rrca, .rrc), (.rla, .rl), (.rra, .rr)] ∧
    (Instr.rra, RotKind.rr) ∈ [(Instr.rlca, RotKind.rlc), (.rrca, .rrc), (.rla, .rl), (.rra, .rr)] := by
  decide

/-- JumpResult, CallResult, ReturnResult: a condition that holds and one that does not. -/
theorem witness_JumpResult :
    let s := { calm with f := 0x80#8 }
    true = s.flagZ ∧ false = (!s.flagZ) ∧ s.cond .z = true ∧ s.cond .nz = false := by
  decide

/-- ProcessorControlResult: the first and the last undefined opcode. -/
theorem witness_ProcessorControlResult : Instr.undefD3 ∈ undefinedInstrs ∧ Instr.undefFD ∈ undefinedInstrs := by
  decide

/-- RomReads: the last overlaid byte, the first that is not, the first and last byte above 0x4000. -/
theorem witness_RomReads :
    let s := State.resetWith largest
    (s.bootActive = true ∧ (0x08FF#16).toNat < bootBytes s.par.bootSize) ∧
    ((0x0900#16).toNat < 0x4000 ∧ ¬ (s.bootActive = true ∧ (0x0900#16).toNat < bootBytes s.par.bootSize)) ∧
    0x4000 ≤ (0x4000#16).toNat ∧ (0x7FFF#16).toNat < 0x8000 := by
  decide

/-- FixedRamAndRegisters, SwitchedRegions: the first and last address of each range. -/
theorem witness_SwitchedRegions :
    (0xC000 ≤ (0xC000#16).toNat ∧ (0xCFFF#16).toNat ≤ 0xCFFF) ∧
    (0xFE00 ≤ (0xFE00#16).toNat ∧ (0xFE9F#16).toNat ≤ 0xFE9F) ∧
    (0x8000 ≤ (0x8000#16).toNat ∧ (0x9FFF#16).toNat ≤ 0x9FFF) ∧
    (0xA000 ≤ (0xA000#16).toNat ∧ (0xBFFF#16).toNat ≤ 0xBFFF ∧ (banked .mbc1).par.nEram ≠ 0 ∧
      (banked .mbc1).mbc = .mbc1 ⟨false, 1, 0, false⟩ ∧ (banked .none).mbc = .none ∧
      ((banked .mbc5).writeByte 0x0000#16 0x0A#8).mbc = .mbc5 ⟨true, 1, 0, 0⟩) ∧
    (0xD000 ≤ (0xD000#16).toNat ∧ (0xDFFF#16).toNat ≤ 0xDFFF) ∧
    (0xE000 ≤ (0xE000#16).toNat ∧ (0xFDFF#16).toNat ≤ 0xFDFF) ∧
    (0xFF80 ≤ (0xFF80#16).toNat ∧ (0xFFFE#16).toNat ≤ 0xFFFE) := by
  decide

/-- PeripheralPorts: the ends of the five port ranges, with and without the peripheral. -/
theorem witness_PeripheralPorts :
    portOf 0xFF00#16 = some .joypad ∧ portOf 0xFF01#16 = some .serial ∧ portOf 0xFF02#16 = some .serial ∧
    portOf 0xFF04#16 = some .timer ∧ portOf 0xFF07#16 = some .timer ∧ portOf 0xFF10#16 = some .audio ∧
    portOf 0xFF3F#16 = some .audio ∧ portOf 0xFF40#16 = some .display ∧ portOf 0xFF4B#16 = some .display ∧
    isAttached calm.par.attached .display = false ∧ isAttached ⟨true, true, true, true, true⟩ .display = true := by
  decide

/-- UnmappedAddresses: the ends of every gap; external RAM that is absent. -/
theorem witness_UnmappedAddresses :
    [0xFEA0#16, 0xFEFF#16, 0xFF03#16, 0xFF08#16, 0xFF0E#16, 0xFF4C#16, 0xFF4E#16, 0xFF51#16, 0xFF6F#16, 0xFF71#16,
      0xFF7F#16].all unclaimed = true ∧
    (0xA000 ≤ (0xA000#16).toNat ∧ (0xBFFF#16).toNat ≤ 0xBFFF ∧ calm.par.nEram = 0) := by
  decide

/-- SelectRegisters: in and out of colour mode. -/
theorem witness_SelectRegisters : (State.resetWith largest).par.colorMode = true ∧ calm.par.colorMode = false := by
  decide

/-- StoreThenLoad: RAM, IF and IE. -/
theorem witness_StoreThenLoad : Inv calm ∧ calm.storable 0xC000#16 = true ∧ calm.storable 0xFDFF#16 = true ∧
    calm.storable 0xFF0F#16 = true ∧ calm.storable 0xFFFF#16 = true :=
  ⟨calm_inv, by decide⟩

/-- AccessFrame: a store to 0xC000 does not reach 0xFF80. -/
theorem witness_AccessFrame : calm.forwards 0xFF80#16 = false ∧ ¬ calm.reaches 0xC000#16 0xFF80#16 := by
  refine ⟨by decide, ?_⟩
  rintro ⟨x, hx, hy⟩
  cases hx
  revert hy
  decide

/-- RomRangeWrites, Mbc1Writes, OtherControllerWrites: the first and last address of every nibble range, under each
controller at reset. -/
theorem witness_Mbc1Writes :
    (banked .mbc1).mbc = .mbc1 ⟨false, 1, 0, false⟩ ∧ (banked .mbc3).mbc = .mbc3 ⟨false, 1, 0⟩ ∧
    (banked .mbc5).mbc = .mbc5 ⟨false, 1, 0, 0⟩ ∧ (banked .none).mbc = .none ∧
    (0x1FFF#16).toNat < 0x2000 ∧ 0x2000 ≤ (0x2000#16).toNat ∧ (0x2FFF#16).toNat < 0x3000 ∧
    0x3000 ≤ (0x3000#16).toNat ∧ (0x3FFF#16).toNat < 0x4000 ∧ 0x4000 ≤ (0x4000#16).toNat ∧
    (0x5FFF#16).toNat < 0x6000 ∧ 0x6000 ≤ (0x6000#16).toNat ∧ (0x7FFF#16).toNat < 0x8000 := by
  decide

/-- BankMaskRule: one bank and three, whose mask is that of four. -/
theorem witness_BankMaskRule : 1 ≤ 1 ∧ bankMask 1 = 0 ∧ 1 ≤ 3 ∧ bankMask 3 = 3 ∧ bankMask 8 = 7 := by
  decide

/-- HeaderDecode: the header of an MBC5 cartridge at its largest code, and of one with a bad size. -/
theorem witness_HeaderDecode :
    let p := { Params.standard with rom := [(0x0147, 0x1B#8), (0x0148, 0x08#8), (0x0149, 0x05#8)] }
    (p.rom.read 0x0147).toNat ∈ [0x19, 0x1A, 0x1B] ∧ (p.rom.read 0x0148).toNat ≤ 8 ∧
      (p.rom.read 0x0149).toNat = 5 ∧ (attach p).attachFault = .none := by
  decide

/-- WordOrder, StackRoundTrips, across the bank boundary at 0xD000. -/
theorem witness_WordOrder : Inv calm ∧ calm.isRam 0xCFFF#16 = true ∧ calm.isRam (0xCFFF#16 + 1) = true ∧
    calm.isRam (calm.sp - 2) = true ∧ calm.isRam (calm.sp - 1) = true ∧
    ({ calm with f := 0x10#8 } : State).cond .c = true :=
  ⟨calm_inv, by decide⟩

/-- DecimalArithmetic: 99 and 99 with the carry set. -/
theorem witness_DecimalArithmetic :
    let s := { calm with a := 0x99#8, b := 0x99#8, f := 0x10#8 }
    s.a = decimalByte 99 ∧ s.srcValue (.reg .b) = decimalByte 99 ∧ 1 = s.flagC.toNat := by
  decide

end Sys2Proof.Tests
end

section
/-!
PROOFS of the scope claims (spec 00_scope.md): the fetch, the inputs and outputs of a step, the constants of a session
and the peripheral ports. `State.fetchBytes_eq` says once what a fetch is, `step_cases` once what a step can do.
-/

namespace Sys2Proof.Machine

/-! ## The fetch -/

/-- An instruction is one, two or three bytes long (R157). -/
theorem instrLength_cases (op : Byte) : instrLength op = 1 ∨ instrLength op = 2 ∨ instrLength op = 3 := by
  suffices h : instrLength op ∈ [1, 2, 3] by simpa using h
  unfold instrLength
  dsimp only
  (repeat' split) <;> simp

/-- Fetching a byte moves PC past it and changes nothing else but the port fields (R16, R37). -/
theorem State.afterFetch_frame (s : State) : ∃ (q : List Byte) (c : Nat) (ev : List Event),
    s.afterFetch = { s with pc := s.pc + 1, periphIn := q, periphCount := c, events := ev } :=
  ⟨_, _, _, by rw [State.afterFetch, State.afterRead_eq]⟩

/-- Fetching `n` bytes moves PC past them and changes nothing else but the port fields (R37, R402). -/
theorem State.afterFetch_iterate (s : State) (n : Nat) : ∃ (q : List Byte) (c : Nat) (ev : List Event),
    State.afterFetch^[n] s =
      { s with pc := s.pc + BitVec.ofNat 16 n, periphIn := q, periphCount := c, events := ev } := by
  induction n with
  | zero => exact ⟨s.periphIn, s.periphCount, s.events, by simp⟩
  | succ n ih =>
    obtain ⟨_, _, _, ih⟩ := ih
    obtain ⟨q, c, ev, e⟩ := (State.afterFetch^[n] s).afterFetch_frame
    have pc : s.pc + BitVec.ofNat 16 (n + 1) = s.pc + BitVec.ofNat 16 n + 1 := by
      rw [BitVec.ofNat_add, ← BitVec.add_assoc]
      rfl
    exact ⟨q, c, ev, by rw [Function.iterate_succ_apply', e, ih, pc]⟩

@[simp] theorem State.afterFetch_iterate_pc (s : State) (n : Nat) :
    (State.afterFetch^[n] s).pc = s.pc + BitVec.ofNat 16 n := by
  obtain ⟨_, _, _, e⟩ := s.afterFetch_iterate n
  rw [e]

/-- Fetched bytes leave the memory side. -/
theorem SameMemory.afterFetch_iterate (s : State) (n : Nat) : SameMemory (State.afterFetch^[n] s) s := by
  obtain ⟨_, _, _, e⟩ := s.afterFetch_iterate n
  rw [e]
  constructor <;> rfl

/-- A fetch reads byte `k` at the PC that `k` fetched bytes leave, as many bytes as the first one asks for
(R16, R157). -/
theorem State.fetchBytes_eq (s : State) :
    s.fetchBytes =
      ((List.range (instrLength (s.readByte s.pc))).map fun k =>
          (State.afterFetch^[k] s).readByte (State.afterFetch^[k] s).pc,
        State.afterFetch^[instrLength (s.readByte s.pc)] s) := by
  unfold State.fetchBytes
  dsimp only
  rcases instrLength_cases (s.readByte s.pc) with h | h | h <;> rw [h] <;> rfl

/-- Settles O8: a fetch is single fetched bytes in a row; each moves PC by one and leaves what the next ones read. -/
theorem fetchReadsThroughTheDecoder : Obligations.FetchReadsThroughTheDecoder := by
  intro s
  obtain ⟨_, _, _, frame⟩ := s.afterFetch_iterate (instrLength (s.readByte s.pc))
  refine ⟨_, _, rfl, rfl, by simp [State.fetchBytes_eq], by rw [State.fetchBytes_eq, frame], fun k hk hf => ?_⟩
  have byte : (State.afterFetch^[k] s).readByte (s.pc + BitVec.ofNat 16 k) =
      s.readByte (s.pc + BitVec.ofNat 16 k) := by
    rcases hf with rfl | hf
    · rfl
    · exact (SameMemory.afterFetch_iterate s k).readByte hf
  simp [State.fetchBytes_eq, List.getElem?_range hk, byte]

/-! ## What a step can do -/

/-- A step depends on the FAULT latch and on the state it starts from alone. -/
theorem step_congr {s t : State} (hf : s.faultLatch = t.faultLatch) (hb : s.beginStep = t.beginStep) :
    step s = step t := by
  simp only [step, State.runStep, hf, hb]

/-- WHAT A STEP CAN DO (R400): with FAULT at NONE, from the state the step starts from, with the wake done, it takes an
interrupt, stays parked, or runs the instruction at PC. -/
theorem step_cases {s t : State} (h : step s = .next t) :
    s.faultLatch = .none ∧ ∃ u, u = s.beginStep.wake ∧
      ((u.takesInterrupt = true ∧ t = u.serviceInterrupt (leastSource u.pending)) ∨
       (u.takesInterrupt = false ∧ u.halted = true ∧ t = u.report 4) ∨
       (u.takesInterrupt = false ∧ u.halted = false ∧
        ∃ i rest, decode u.fetchBytes.1 = .instr i rest ∧ exec i u.fetchBytes.2 = .next t)) := by
  unfold step at h
  split at h
  case h_1 hf =>
    refine ⟨hf, _, rfl, ?_⟩
    unfold State.runStep at h
    dsimp only at h
    split at h
    case isTrue hi =>
      cases h
      exact .inl ⟨hi, rfl⟩
    case isFalse hi =>
      rw [Bool.not_eq_true] at hi
      split at h
      case isTrue hh =>
        cases h
        exact .inr (.inl ⟨hi, hh, rfl⟩)
      case isFalse hh =>
        rw [Bool.not_eq_true] at hh
        unfold State.runInstr at h
        split at h
        case h_1 i rest hd => exact .inr (.inr ⟨hi, hh, i, rest, hd, h⟩)
        case h_2 => cases h
  all_goals cases h

/-- Settles O14: in each clause the two sides start their steps from the same state. -/
theorem stepInputsAndOutputs : Obligations.StepInputsAndOutputs := by
  intro s r rest ev n
  refine ⟨step_congr rfl ?request, step_congr rfl ?noRequest, step_congr rfl rfl⟩
  case request => simp [State.beginStep, State.presentRequests]
  case noRequest => simp [State.beginStep, State.presentRequests]

/-! ## The constants of a session -/

/-- The store to 0xFF50 is the one byte write that touches the overlay: it clears it (R43). -/
theorem State.writeByte_bootActive (s : State) (x : Word) (v : Byte) :
    (s.writeByte x v).bootActive = (s.bootActive && !decide (x = 0xFF50#16)) := by
  by_cases hx : x = 0xFF50#16
  · subst hx
    have e : region 0xFF50#16 = .bootUnmap := by decide
    simp [State.writeByte, e]
  · have e : region x ≠ .bootUnmap := fun h => hx (region_eq_bootUnmap h)
    unfold State.writeByte
    (repeat' split) <;> simp_all

theorem State.writeAll_bootActive (s : State) (ws : List (Word × Byte)) :
    (s.writeAll ws).bootActive = (s.bootActive && !decide (0xFF50#16 ∈ ws.map Prod.fst)) := by
  induction ws generalizing s with
  | nil => simp
  | cons w ws ih =>
    rw [State.writeAll_cons, ih, State.writeByte_bootActive, Bool.and_assoc, ← Bool.not_or, List.map_cons]
    simp [eq_comm]

theorem State.writeAll_par (s : State) (ws : List (Word × Byte)) : (s.writeAll ws).par = s.par := by
  induction ws generalizing s with
  | nil => rfl
  | cons w ws ih => rw [State.writeAll_cons, ih, State.writeByte_par]

/-- An instruction clears the overlay exactly when it stores to 0xFF50 (R43, R50, R83). -/
theorem exec_bootActive {i : Instr} {s t : State} (h : exec i s = .next t) :
    t.bootActive = (s.bootActive && !decide (0xFF50#16 ∈ storedAddresses s i)) := by
  obtain ⟨ws, hw, m⟩ := exec_stores h
  rw [m.bootActive, State.writeAll_bootActive, hw]

/-- No instruction changes the parameters (R7, R8). -/
theorem exec_par {i : Instr} {s t : State} (h : exec i s = .next t) : t.par = s.par := by
  obtain ⟨ws, -, m⟩ := exec_stores h
  rw [m.par, State.writeAll_par]

/-- A fetch leaves the memory side. -/
theorem SameMemory.fetchBytes (s : State) : SameMemory s.fetchBytes.2 s := by
  rw [State.fetchBytes_eq]
  exact SameMemory.afterFetch_iterate s _

/-- A push touches the overlay only by the two bytes it stores (R350). -/
theorem State.push_bootActive (s : State) (v : Word) :
    (s.push v).bootActive = (s.bootActive && !decide (0xFF50#16 ∈ [s.sp - 2, s.sp - 2 + 1])) :=
  (SameMemory.push s v).bootActive.trans
    (s.writeAll_bootActive [(s.sp - 2, loByte v), (s.sp - 2 + 1, hiByte v)])

/-- So does an interrupt entry, which pushes PC (R412). -/
theorem State.serviceInterrupt_bootActive (s : State) (n : Nat) :
    (s.serviceInterrupt n).bootActive = (s.bootActive && !decide (0xFF50#16 ∈ [s.sp - 2, s.sp - 2 + 1])) :=
  State.push_bootActive _ _

/-- Settles O19: by the outcomes of a step, and by the stored addresses of an instruction. -/
theorem sessionConstants : Obligations.SessionConstants := by
  refine ⟨fun s t h => ?_, fun i s t h => exec_bootActive h⟩
  obtain ⟨-, u, hu, h⟩ := step_cases h
  have par : u.par = s.par := by simp [hu]
  have boot : u.bootActive = s.bootActive := by simp [hu]
  rw [← par, ← boot]
  rcases h with ⟨-, rfl⟩ | ⟨-, -, rfl⟩ | ⟨-, -, i, rest, -, h⟩
  · refine ⟨State.serviceInterrupt_par u _, fun ht => ?_⟩
    rw [State.serviceInterrupt_bootActive, Bool.and_eq_true] at ht
    exact ht.1
  · exact ⟨rfl, id⟩
  · have fetch := SameMemory.fetchBytes u
    refine ⟨(exec_par h).trans fetch.par, fun ht => ?_⟩
    rw [exec_bootActive h, fetch.bootActive, Bool.and_eq_true] at ht
    exact ht.1

/-! ## The peripheral ports -/

/-- What a read of a port gives (R95). -/
theorem State.readByte_periph {s : State} {a : Word} {p : Peripheral} (h : region a = .periph p) :
    s.readByte a = if isAttached s.par.attached p then s.nextAnswer else openBus := by
  simp [State.readByte, State.cellAt, h]

/-- What a read of a port leaves (R95). -/
theorem State.afterRead_periph {s : State} {a : Word} {p : Peripheral} (h : region a = .periph p) :
    s.afterRead a =
      if isAttached s.par.attached p then s.dropAnswer.emit (.periphRead p a) else s.diag .unmappedRead a := by
  simp [State.afterRead, h]

/-- What a write to a port does (R96). -/
theorem State.writeByte_periph {s : State} {a : Word} {v : Byte} {p : Peripheral} (h : region a = .periph p) :
    s.writeByte a v =
      if isAttached s.par.attached p then s.emit (.periphWrite p a v) else s.diag .unmappedWrite a := by
  simp [State.writeByte, h]

/-- Settles O47: the port ranges are the map's rows of the peripherals, read and written by one rule each. -/
theorem peripheralPorts : Obligations.PeripheralPorts := by
  intro s a v p hp
  have row := region_portOf hp
  rw [State.readByte_periph row, State.afterRead_periph row, State.writeByte_periph row]
  refine ⟨fun present => ?_, fun absent => ?_⟩
  · simp [present, State.emit]
  · simp [absent, State.diag, State.emit, openBus]

end Sys2Proof.Machine
end

section
/-!
PROOFS of the state claims (spec 10_state.md): what an instruction does outside memory. `exec_completes` says that every
instruction has a next state, `exec_frame` once what it leaves of the run state, SP, PC, the latch and the inputs; then
the registers and the flags.
-/

namespace Sys2Proof.Machine

/-! ## The run state, SP, PC, the latch and the inputs -/

/-- Every instruction completes, in every state (R405, R425). -/
theorem exec_completes (i : Instr) (s : State) : ∃ t, exec i s = .next t := by
  induction i using Instr.byForm with
  | h_undef i hi => exact ⟨_, exec_undefined i hi s⟩
  | h_prefix e ih => rwa [exec_prefixCB]
  | h_jrForm _ _ | h_jpForm _ _ | h_callForm _ _ | h_retForm _ =>
    simp only [exec_jrForm, exec_jpForm, exec_callForm, exec_retForm, jumpRelIf, jumpIf, callIf, returnIf]
    split <;> exact ⟨_, rfl⟩
  | h_ldForm _ _ | h_ldAtHLForm _ | h_aluForm _ _ | h_incForm _ | h_decForm _ | h_ldPairForm _ _ | h_addHLForm _
  | h_incPairForm _ | h_decPairForm _ | h_pushForm _ | h_popForm _ | h_rstForm _ | h_rotForm _ _ | h_bitForm _ _
  | h_resForm _ _ | h_setForm _ _ =>
    simp only [exec_ldForm, exec_ldAtHLForm, exec_aluForm, exec_incForm, exec_decForm, exec_ldPairForm, exec_addHLForm,
      exec_incPairForm, exec_decPairForm, exec_pushForm, exec_popForm, exec_rstForm, exec_rotForm, exec_bitForm,
      exec_resForm, exec_setForm]
    exact ⟨_, rfl⟩
  | _ => exact ⟨_, rfl⟩

@[simp] theorem writesSp_decodeExtended (e : Byte) : writesSp (decodeExtended e) = false := by
  simp only [decodeExtended]
  split <;> simp

@[simp] theorem writesPc_decodeExtended (e : Byte) : writesPc (decodeExtended e) = false := by
  simp only [decodeExtended]
  split <;> simp

/-- The extended rows are none of the four instructions that write the run state. -/
theorem decodeExtended_ne (e : Byte) :
    decodeExtended e ≠ .halt ∧ decodeExtended e ≠ .ei ∧ decodeExtended e ≠ .reti ∧ decodeExtended e ≠ .di := by
  have enc := encode_decodeExtended e
  refine ⟨fun h => ?_, fun h => ?_, fun h => ?_, fun h => ?_⟩ <;> rw [h] at enc <;> cases enc

theorem State.setPair_sp_of_ne {p : Reg16} (s : State) (v : Word) (hp : p ≠ .sp) : (s.setPair p v).sp = s.sp := by
  cases p with
  | sp => exact absurd rfl hp
  | _ => rfl

/-- What an instruction leaves outside memory and the register file: HALTED and IME but for their writers (R39, R40), SP
and PC but for theirs (R36, R37), the FAULT latch (R56) and the requests still to come (R11) always. -/
structure InstrFrame (i : Instr) (s t : State) : Prop where
  halted : i ≠ .halt → t.halted = s.halted
  ime : i ≠ .ei → i ≠ .reti → i ≠ .di → t.ime = s.ime
  sp : writesSp i = false → t.sp = s.sp
  pc : writesPc i = false → t.pc = s.pc
  faultLatch : t.faultLatch = s.faultLatch
  irqIn : t.irqIn = s.irqIn

/-- WHAT AN INSTRUCTION LEAVES OUTSIDE MEMORY AND THE REGISTER FILE, form by form. -/
theorem exec_frame {i : Instr} {s t : State} (h : exec i s = .next t) : InstrFrame i s t := by
  induction i using Instr.byForm with
  | h_undef i hi =>
    rw [exec_undefined i hi] at h
    cases h
    constructor <;> simp
  | h_prefix e ih =>
    rw [exec_prefixCB] at h
    have frame := ih h
    obtain ⟨halt, ei, reti, di⟩ := decodeExtended_ne e
    exact ⟨fun _ => frame.halted halt, fun _ _ _ => frame.ime ei reti di, fun _ => frame.sp (by simp),
      fun _ => frame.pc (by simp), frame.faultLatch, frame.irqIn⟩
  | h_jrForm _ _ | h_jpForm _ _ | h_callForm _ _ | h_retForm _ =>
    simp only [exec_jrForm, exec_jpForm, exec_callForm, exec_retForm, jumpRelIf, jumpIf, callIf, returnIf] at h
    split at h <;> cases h <;> constructor <;> simp
  | h_aluForm op x =>
    rw [exec_aluForm] at h
    cases h
    by_cases e : op = .cp <;> simp only [e, if_true, if_false] <;> constructor <;> simp
  | h_ldPairForm p _ | h_incPairForm p | h_decPairForm p =>
    simp only [exec_ldPairForm, exec_incPairForm, exec_decPairForm] at h
    cases h
    constructor <;> simp +contextual [State.setPair_sp_of_ne]
  | h_ldForm _ _ | h_ldAtHLForm _ | h_incForm _ | h_decForm _ | h_addHLForm _ | h_pushForm _ | h_popForm _ | h_rstForm _
  | h_rotForm _ _ | h_bitForm _ _ | h_resForm _ _ | h_setForm _ _ =>
    simp only [exec_ldForm, exec_ldAtHLForm, exec_incForm, exec_decForm, exec_addHLForm, exec_pushForm, exec_popForm,
      exec_rstForm, exec_rotForm, exec_bitForm, exec_resForm, exec_setForm] at h
    cases h
    constructor <;> simp
  | _ =>
    cases h
    constructor <;> simp [State.returnFromInterrupt]

/-- Settles O20: by the frame, and by their own meanings for the four instructions outside it. -/
theorem runStateWriters : Obligations.RunStateWriters := by
  intro i s t h
  have frame := exec_frame h
  by_cases halt : i = .halt
  · subst halt; cases h; simp
  by_cases ei : i = .ei
  · subst ei; cases h; simp
  by_cases reti : i = .reti
  · subst reti; cases h; simp [State.returnFromInterrupt]
  by_cases di : i = .di
  · subst di; cases h; simp
  · simp [halt, ei, reti, di, frame.halted halt, frame.ime ei reti di]

/-- Settles O23: two fields of the frame. -/
theorem spAndPcFrame : Obligations.SpAndPcFrame := fun _ _ _ h => ⟨(exec_frame h).sp, (exec_frame h).pc⟩

/-! ## The registers -/

/-- Updates of A and other fields leave every other register. -/
theorem State.reg_congr_of_not_mem_a {s t : State} (hb : t.b = s.b) (hc : t.c = s.c) (hd : t.d = s.d) (he : t.e = s.e)
    (hh : t.h = s.h) (hl : t.l = s.l) {r : Reg8} (hr : r ∉ [Reg8.a]) : t.reg r = s.reg r := by
  cases r <;> simp_all [State.reg]

theorem State.reg_setReg_of_not_mem (s : State) {q r : Reg8} (v : Byte) (hr : r ∉ [q]) :
    (s.setReg q v).reg r = s.reg r := by
  rw [State.reg_setReg, if_neg fun e => hr (by simp [e])]

theorem State.reg_setReg2_of_not_mem (s : State) {q q' r : Reg8} (v w : Byte) (hr : r ∉ [q, q']) :
    ((s.setReg q v).setReg q' w).reg r = s.reg r := by
  simp only [List.mem_cons, List.not_mem_nil, or_false, not_or] at hr
  rw [State.reg_setReg, if_neg (Ne.symm hr.2), State.reg_setReg, if_neg (Ne.symm hr.1)]

theorem State.reg_setHL_of_not_mem (s : State) {r : Reg8} (v : Word) (hr : r ∉ [Reg8.h, .l]) :
    (s.setHL v).reg r = s.reg r :=
  s.reg_setReg2_of_not_mem (hiByte v) (loByte v) hr

theorem State.reg_setPair_of_not_mem (s : State) {p : Reg16} {r : Reg8} (v : Word)
    (hr : r ∉ destRegs (Instr.incPairForm p)) : (s.setPair p v).reg r = s.reg r := by
  cases p with
  | sp => cases r <;> rfl
  | bc | de | hl => exact s.reg_setReg2_of_not_mem (hiByte v) (loByte v) (by simpa using hr)

theorem State.reg_setStk_of_not_mem (s : State) {q : Stk16} {r : Reg8} (v : Word)
    (hr : r ∉ destRegs (Instr.popForm q)) : (s.setStk q v).reg r = s.reg r := by
  cases q with
  | af =>
    exact State.reg_congr_of_not_mem_a (s := s) (t := s.setStk .af v) rfl rfl rfl rfl rfl rfl (by simpa using hr)
  | bc | de | hl => exact s.reg_setReg2_of_not_mem (hiByte v) (loByte v) (by simpa using hr)

theorem State.reg_setLoc_of_not_mem (s : State) {x : Loc8} {r : Reg8} (v : Byte)
    (hr : r ∉ destRegs (Instr.incForm x)) : (s.setLoc x v).reg r = s.reg r := by
  cases x with
  | reg q => exact s.reg_setReg_of_not_mem v (by simpa using hr)
  | atHL => exact s.reg_writeByte _ v r

/-- Settles O21: each form writes A, HL, a pair, a pair off the stack, one operand or no register, and nothing else. -/
theorem registerFrame : Obligations.RegisterFrame := by
  intro i s t h r hr
  induction i using Instr.byForm with
  | h_undef i hi =>
    rw [exec_undefined i hi] at h
    cases h
    rfl
  | h_prefix e ih =>
    rw [exec_prefixCB] at h
    exact ih h (by rwa [destRegs_decodeExtended])
  | h_jrForm _ _ | h_jpForm _ _ | h_callForm _ _ | h_retForm _ =>
    simp only [exec_jrForm, exec_jpForm, exec_callForm, exec_retForm, jumpRelIf, jumpIf, callIf, returnIf] at h
    split at h <;> cases h <;>
      exact State.reg_congr (by simp) (by simp) (by simp) (by simp) (by simp) (by simp) (by simp) r
  | h_ldForm dst x =>
    rw [exec_ldForm] at h
    cases h
    exact (State.reg_setReg_of_not_mem _ _ (by simpa using hr)).trans (State.reg_afterSrc s x r)
  | h_aluForm op x =>
    rw [exec_aluForm] at h
    cases h
    by_cases e : op = .cp
    · simp [e]
    · simp only [e, if_false]
      exact State.reg_congr_of_not_mem_a (by simp) (by simp) (by simp) (by simp) (by simp) (by simp)
        (by simpa [e] using hr)
  | h_incForm x | h_decForm x | h_rotForm _ x | h_resForm _ x | h_setForm _ x =>
    simp only [exec_incForm, exec_decForm, exec_rotForm, exec_resForm, exec_setForm] at h
    cases h
    simp only [State.reg_report, State.reg_withFlagsOf, State.reg_setFlags]
    exact (State.reg_setLoc_of_not_mem _ _ (by simpa using hr)).trans (State.reg_afterLoc s x r)
  | h_ldPairForm p _ | h_incPairForm p | h_decPairForm p =>
    simp only [exec_ldPairForm, exec_incPairForm, exec_decPairForm] at h
    cases h
    exact State.reg_setPair_of_not_mem s _ (by simpa using hr)
  | h_addHLForm p =>
    rw [exec_addHLForm] at h
    cases h
    rw [State.reg_report, State.reg_setFlags]
    exact State.reg_setHL_of_not_mem s _ (by simpa using hr)
  | h_popForm q =>
    rw [exec_popForm] at h
    cases h
    exact (State.reg_setStk_of_not_mem _ _ hr).trans (State.reg_afterPop s r)
  | h_ldAtHLForm _ | h_pushForm _ | h_rstForm _ | h_bitForm _ _ =>
    simp only [exec_ldAtHLForm, exec_pushForm, exec_rstForm, exec_bitForm] at h
    cases h
    simp
  | h_rlca | h_rrca | h_rla | h_rra | h_daa | h_cpl | h_ldA_AtBC | h_ldA_AtDE | h_ldA_AtC | h_ldhA_AtA8 _
  | h_ldA_AtA16 _ =>
    cases h
    exact State.reg_congr_of_not_mem_a (by simp) (by simp) (by simp) (by simp) (by simp) (by simp) (by simpa using hr)
  | h_ldAtHLInc_A | h_ldAtHLDec_A =>
    cases h
    rw [State.reg_report, State.reg_setHL_of_not_mem _ _ (by simpa using hr), State.reg_writeByte]
  | h_ldA_AtHLInc | h_ldA_AtHLDec =>
    cases h
    have ne : r ∉ [Reg8.a] ∧ r ∉ [Reg8.h, .l] := by simpa using hr
    rw [State.reg_report, State.reg_setHL_of_not_mem _ _ ne.2]
    exact State.reg_congr_of_not_mem_a (by simp) (by simp) (by simp) (by simp) (by simp) (by simp) ne.1
  | h_ldHL_SPr8 _ =>
    cases h
    rw [State.reg_report, State.reg_setFlags]
    exact State.reg_setHL_of_not_mem s _ (by simpa using hr)
  | h_reti =>
    cases h
    exact State.reg_afterPop s r
  | _ =>
    cases h
    exact State.reg_congr (by simp) (by simp) (by simp) (by simp) (by simp) (by simp) (by simp) r

/-! ## The flags -/

/-- The four flags of a row, each before and after as the row allows (R160). -/
def FlagRow.allows (row : FlagRow) (s : State) (z n h c : Bool) : Prop :=
  row.z.allows s.flagZ z ∧ row.n.allows s.flagN n ∧ row.h.allows s.flagH h ∧ row.c.allows s.flagC c

/-- What the flag summary says of an instruction in row `row` that takes `s` to `t` (R31, R160). -/
def FollowsRow (row : FlagRow) (s t : State) : Prop :=
  row.z.allows s.flagZ t.flagZ ∧ row.n.allows s.flagN t.flagN ∧ row.h.allows s.flagH t.flagH ∧
    row.c.allows s.flagC t.flagC ∧ (s.f &&& 0x0F#8 = 0#8 → t.f &&& 0x0F#8 = 0#8) ∧ (row = FlagRow.none → t.f = s.f)

/-- An instruction that leaves F follows the row of four kept flags. -/
theorem FollowsRow.of_kept {row : FlagRow} {s t : State} (e : row = FlagRow.none) (f : t.f = s.f) :
    FollowsRow row s t := by
  subst e
  simp [FollowsRow, FlagRow.none, FlagEffect.allows, State.flagZ, State.flagN, State.flagH, State.flagC, f]

/-- An instruction that sets F to four flags follows a row that allows each of them. -/
theorem FollowsRow.of_setFlags {row : FlagRow} {s u : State} {z n h c : Bool} {k : Nat} (e : row ≠ FlagRow.none)
    (ok : row.allows s z n h c) : FollowsRow row s ((u.setFlags z n h c).report k) := by
  obtain ⟨hz, hn, hh, hc⟩ := ok
  refine ⟨?_, ?_, ?_, ?_, fun _ => u.f_low_setF _, fun none => absurd none e⟩
  · rwa [State.flagZ_report, State.flagZ_setFlags]
  · rwa [State.flagN_report, State.flagN_setFlags]
  · rwa [State.flagH_report, State.flagH_setFlags]
  · rwa [State.flagC_report, State.flagC_setFlags]

theorem State.setStk_f_of_ne (s : State) {q : Stk16} (v : Word) (hq : q ≠ .af) : (s.setStk q v).f = s.f := by
  cases q with
  | af => exact absurd rfl hq
  | _ => rfl

theorem flagRow_undefined {i : Instr} (hi : i ∈ undefinedInstrs) : flagRow i = FlagRow.none := by
  simp only [undefinedInstrs, List.mem_cons, List.not_mem_nil, or_false] at hi
  rcases hi with rfl | rfl | rfl | rfl | rfl | rfl | rfl | rfl | rfl | rfl | rfl <;> rfl

/-- Settles O22: an instruction leaves F, or sets it to four flags that its row allows; POP AF loads it through the
mask. -/
theorem flagSummary : Obligations.FlagSummary := by
  intro i s t h
  show FollowsRow (flagRow i) s t
  induction i using Instr.byForm with
  | h_undef i hi =>
    rw [exec_undefined i hi] at h
    cases h
    exact .of_kept (flagRow_undefined hi) rfl
  | h_prefix e ih =>
    rw [exec_prefixCB] at h
    rw [← flagRow_decodeExtended]
    exact ih h
  | h_jrForm _ _ | h_jpForm _ _ | h_callForm _ _ | h_retForm _ =>
    simp only [exec_jrForm, exec_jpForm, exec_callForm, exec_retForm, jumpRelIf, jumpIf, callIf, returnIf] at h
    split at h <;> cases h <;> exact .of_kept (by simp) (by simp)
  | h_ldForm _ _ | h_ldAtHLForm _ | h_ldPairForm _ _ | h_incPairForm _ | h_decPairForm _ | h_pushForm _ | h_rstForm _
  | h_resForm _ _ | h_setForm _ _ =>
    simp only [exec_ldForm, exec_ldAtHLForm, exec_ldPairForm, exec_incPairForm, exec_decPairForm, exec_pushForm,
      exec_rstForm, exec_resForm, exec_setForm] at h
    cases h
    exact .of_kept (by simp) (by simp)
  | h_aluForm op x =>
    rw [exec_aluForm] at h
    cases h
    refine .of_setFlags ?_ ?_ <;> cases op <;>
      simp [FlagRow.none, FlagRow.allows, FlagEffect.allows, aluResult, add8, sub8, and8, or8, xor8]
  | h_incForm x =>
    rw [exec_incForm] at h
    cases h
    exact .of_setFlags (by simp [FlagRow.none]) (by simp [FlagRow.allows, FlagEffect.allows, inc8])
  | h_decForm x =>
    rw [exec_decForm] at h
    cases h
    exact .of_setFlags (by simp [FlagRow.none]) (by simp [FlagRow.allows, FlagEffect.allows, dec8])
  | h_rotForm k x =>
    rw [exec_rotForm] at h
    cases h
    refine .of_setFlags ?_ ?_ <;> cases k <;> simp [FlagRow.none, FlagRow.allows, FlagEffect.allows, rotate]
  | h_addHLForm _ | h_bitForm _ _ =>
    simp only [exec_addHLForm, exec_bitForm] at h
    cases h
    exact .of_setFlags (by simp [FlagRow.none]) (by simp [FlagRow.allows, FlagEffect.allows])
  | h_popForm q =>
    rw [exec_popForm] at h
    cases h
    by_cases hq : q = .af
    · subst hq
      have low := ({ s.afterPop with a := hiByte s.popValue } : State).f_low_setF (loByte s.popValue)
      exact ⟨trivial, trivial, trivial, trivial, fun _ => low, fun none => by simp [FlagRow.none] at none⟩
    · exact .of_kept (by simp [hq]) (by simp [State.setStk_f_of_ne, hq])
  | h_daa =>
    cases h
    exact .of_setFlags (by simp [FlagRow.none]) (by simp [FlagRow.allows, FlagEffect.allows, daa8])
  | h_rlca | h_rrca | h_rla | h_rra | h_cpl | h_scf | h_ccf | h_addSP_r8 _ | h_ldHL_SPr8 _ =>
    cases h
    exact .of_setFlags (by simp [FlagRow.none]) (by simp [FlagRow.allows, FlagEffect.allows])
  | _ =>
    cases h
    exact .of_kept (by simp) (by simp [State.returnFromInterrupt])

end Sys2Proof.Machine
end

section
/-!
PROOFS of the state claims, the fetch and the step: what is stored at PC is what a step runs, and a step completes
while FAULT is NONE. `decode_encode` says that decoding undoes encoding.
-/

namespace Sys2Proof.Machine

/-! ## Decoding what is encoded -/

/-- Decoding undoes encoding (R140, R152). In the rows with a word immediate its two bytes join to the word again. -/
theorem decode_encode {i : Instr} (hi : i.wellFormed = true) (rest : List Byte) :
    decode (encode i ++ rest) = .instr i rest := by
  cases i with
  | prefixCB e => cases hi
  | ldBC_d16 nn | ldAtA16_SP nn | ldDE_d16 nn | ldHL_d16 nn | ldSP_d16 nn | jpNZ_a16 nn | jp_a16 nn | callNZ_a16 nn
  | jpZ_a16 nn | callZ_a16 nn | call_a16 nn | jpNC_a16 nn | callNC_a16 nn | jpC_a16 nn | callC_a16 nn
  | ldAtA16_A nn | ldA_AtA16 nn =>
    rw [← joinBytes_hi_lo nn]
    show decode (_ :: loByte (joinBytes _ _) :: hiByte (joinBytes _ _) :: rest) = _
    rw [loByte_joinBytes, hiByte_joinBytes]
    rfl
  | _ => rfl

/-- The decoder takes as many bytes as the first one asks for (R157). -/
theorem length_of_decode {op : Byte} {bs rest : List Byte} {i : Instr} (h : decode (op :: bs) = .instr i rest) :
    bs.length + 1 = instrLength op + rest.length := by
  rcases instrLength_cases op with e | e | e <;> simp only [decode, e] at h ⊢
  · cases h
    omega
  · cases bs <;> cases h
    simp only [List.length_cons]
    omega
  · rcases bs with _ | ⟨_, _ | ⟨_, _⟩⟩ <;> cases h
    simp only [List.length_cons]
    omega

/-- As many bytes as the first one asks for are one instruction: no byte value is rejected (R140). -/
theorem decode_of_length {op : Byte} {bs : List Byte} (h : bs.length + 1 = instrLength op) :
    ∃ i, decode (op :: bs) = .instr i [] := by
  rcases instrLength_cases op with e | e | e <;> rw [e] at h <;> simp only [decode, e]
  · obtain rfl := List.length_eq_zero_iff.1 (by omega : bs.length = 0)
    exact ⟨_, rfl⟩
  · obtain ⟨_, rfl⟩ := List.length_eq_one_iff.1 (by omega : bs.length = 1)
    exact ⟨_, rfl⟩
  · obtain ⟨_, _, rfl⟩ := List.length_eq_two.1 (by omega : bs.length = 2)
    exact ⟨_, rfl⟩

/-- An encoding starts with a byte that asks for all of it. -/
theorem encode_head {i : Instr} (hi : i.wellFormed = true) :
    ∃ op bs, encode i = op :: bs ∧ instrLength op = (encode i).length := by
  have d := decode_encode hi []
  rw [List.append_nil] at d
  cases e : encode i with
  | nil => rw [e] at d; cases d
  | cons op bs =>
    rw [e] at d
    exact ⟨op, bs, rfl, by simpa using (length_of_decode d).symm⟩

/-- The fetched bytes are one instruction (R140, R157). -/
theorem State.decode_fetchBytes (s : State) : ∃ i, decode s.fetchBytes.1 = .instr i [] := by
  have len : s.fetchBytes.1.length = instrLength (s.readByte s.pc) := by simp [State.fetchBytes_eq]
  have head : s.fetchBytes.1.head? = some (s.readByte s.pc) := by
    rcases instrLength_cases (s.readByte s.pc) with h | h | h <;> rw [State.fetchBytes_eq, h] <;> rfl
  cases e : s.fetchBytes.1 with
  | nil => simp [e] at head
  | cons op bs =>
    rw [e] at len head
    cases head
    exact decode_of_length len

/-! ## Code in a physical array -/

theorem State.readByte_of_cell {s : State} {a : Word} {x : Store × Nat} (h : s.cellAt a = some x) :
    s.readByte a = s.cell x := by
  simp only [State.readByte, h]

/-- Fetching bytes that stand in a physical array moves PC and nothing else (R37, R128). -/
theorem State.afterFetch_iterate_of_cells {s : State} {n : Nat}
    (h : ∀ k, k < n → ∃ x, s.cellAt (s.pc + BitVec.ofNat 16 k) = some x) :
    State.afterFetch^[n] s = { s with pc := s.pc + BitVec.ofNat 16 n } := by
  induction n with
  | zero => simp
  | succ n ih =>
    obtain ⟨x, hx⟩ := h n (by omega)
    have here : ({ s with pc := s.pc + BitVec.ofNat 16 n } : State).cellAt (s.pc + BitVec.ofNat 16 n) = some x := hx
    have pc : s.pc + BitVec.ofNat 16 (n + 1) = s.pc + BitVec.ofNat 16 n + 1 := by
      rw [BitVec.ofNat_add, ← BitVec.add_assoc]
      rfl
    rw [Function.iterate_succ_apply', ih fun k hk => h k (by omega), State.afterFetch, State.afterRead_of_cell here, pc]

/-- Fetching an encoding that stands in physical cells gives it back and moves PC past it (R128, R142, R402). -/
theorem State.fetchBytes_of_stored {s : State} {i : Instr} (hi : i.wellFormed = true)
    (h : ∀ k, k < (encode i).length →
      ∃ x, s.cellAt (s.pc + BitVec.ofNat 16 k) = some x ∧ (encode i)[k]? = some (s.cell x)) :
    s.fetchBytes = (encode i, { s with pc := s.pc + BitVec.ofNat 16 (encode i).length }) := by
  obtain ⟨op, bs, he, len⟩ := encode_head hi
  have byte : ∀ k, k < (encode i).length →
      (encode i)[k]? = some ((State.afterFetch^[k] s).readByte (s.pc + BitVec.ofNat 16 k)) := by
    intro k hk
    obtain ⟨x, hx, hv⟩ := h k hk
    have same := SameMemory.afterFetch_iterate s k
    rw [hv, State.readByte_of_cell ((same.cellAt _).trans hx), same.cell]
  have first : s.readByte s.pc = op := by
    have := byte 0 (by simp [he])
    simpa [he] using this.symm
  rw [State.fetchBytes_eq, first, len,
    State.afterFetch_iterate_of_cells fun k hk => let ⟨x, hx, _⟩ := h k hk; ⟨x, hx⟩]
  refine Prod.ext (List.ext_getElem? fun k => ?_) rfl
  by_cases hk : k < (encode i).length
  · rw [byte k hk]
    simp [List.getElem?_range hk]
  · simp [hk]

/-- With FAULT at NONE, nothing serviced and the core not parked, a step is the instruction at PC (R400). -/
theorem step_of_running {s : State} (hf : s.faultLatch = .none) (hi : s.beginStep.wake.takesInterrupt = false)
    (hh : s.beginStep.wake.halted = false) : step s = s.beginStep.wake.runInstr := by
  simp [step, hf, State.runStep, hi, hh]

/-- Settles O7: the fetch gives the stored encoding, and the decoder gives its instruction back. -/
theorem stepRunsStoredInstruction : Obligations.StepRunsStoredInstruction := by
  rintro s t i hw hf rfl hi hh stored
  have decoded := decode_encode hw []
  rw [List.append_nil] at decoded
  rw [step_of_running hf hi hh, State.runInstr, State.fetchBytes_of_stored hw stored, decoded]

/-! ## A step completes while FAULT is NONE -/

/-- With FAULT at NONE every step completes (R400, R405). -/
theorem step_completes {s : State} (hf : s.faultLatch = .none) : ∃ t, step s = .next t := by
  obtain ⟨i, decoded⟩ := s.beginStep.wake.decode_fetchBytes
  simp only [step, hf, State.runStep, State.runInstr, decoded]
  split
  · exact ⟨_, rfl⟩
  split
  · exact ⟨_, rfl⟩
  · exact exec_completes i _

@[simp] theorem State.fetchBytes_faultLatch (s : State) : s.fetchBytes.2.faultLatch = s.faultLatch := by
  obtain ⟨_, _, _, e⟩ := s.afterFetch_iterate (instrLength (s.readByte s.pc))
  rw [State.fetchBytes_eq, e]

/-- No step changes the FAULT latch (R56). -/
theorem step_faultLatch {s t : State} (h : step s = .next t) : t.faultLatch = s.faultLatch := by
  obtain ⟨-, u, rfl, outcome⟩ := step_cases h
  rcases outcome with ⟨-, rfl⟩ | ⟨-, -, rfl⟩ | ⟨-, -, i, rest, -, run⟩
  · simp
  · simp
  · simp [(exec_frame run).faultLatch]

/-- Settles O13: with the latch at NONE a step completes and leaves it; each other value is its own case of `step`. -/
theorem stepStopsOnlyOnFault : Obligations.StepStopsOnlyOnFault := by
  intro s
  refine ⟨fun hf => ?_, fun hf => ?_, fun hf => ?_, fun hf => ?_⟩
  · obtain ⟨t, ht⟩ := step_completes hf
    exact ⟨t, ht, (step_faultLatch ht).trans hf⟩
  all_goals simp [step, hf]

end Sys2Proof.Machine
end

section
/-!
PROOFS of the state claims, the address map and the control registers: the switched regions, the select registers, and
the addresses whose stores change each control register.
-/

namespace Sys2Proof.Machine

/-! ## The switched regions -/

/-- A RAM address reads the cell it names and stores into it. -/
theorem State.access_of_isRam {s : State} {a : Word} {x : Store × Nat} (ram : s.isRam a = true)
    (cell : s.cellAt a = some x) (v : Byte) : s.readByte a = s.cell x ∧ s.writeByte a v = s.setCell x v :=
  ⟨State.readByte_of_cell cell, State.writeByte_of_isRam ram cell v⟩

/-- Two addresses in the same row of the map at the same offset, in RAM, are one (R91). -/
theorem State.access_congr {s : State} {a b : Word} (row : region a = region b) (ram : s.isRam b = true) (v : Byte) :
    s.readByte a = s.readByte b ∧ s.afterRead a = s.afterRead b ∧ s.writeByte a v = s.writeByte b v := by
  have sameCell : s.cellAt a = s.cellAt b := by simp only [State.cellAt, row]
  have sameRam : s.isRam a = s.isRam b := by simp only [State.isRam, row]
  obtain ⟨x, cell, -⟩ := State.cell_of_isRam ram
  obtain ⟨readA, writeA⟩ := State.access_of_isRam (sameRam.trans ram) (sameCell.trans cell) v
  obtain ⟨readB, writeB⟩ := State.access_of_isRam ram cell v
  exact ⟨readA.trans readB.symm,
    (State.afterRead_of_cell (sameCell.trans cell)).trans (State.afterRead_of_cell cell).symm,
    writeA.trans writeB.symm⟩

theorem State.isRam_wram {s : State} {a : Word} (h : 0xC000 ≤ a.toNat) (k : a.toNat < 0xE000) : s.isRam a = true := by
  by_cases j : a.toNat < 0xD000
  · simp only [State.isRam, region_wramLow h j]
  · simp only [State.isRam, region_wramHigh (by omega) k]

/-- Settles O46: the RAM rows read and store the cell they name, the mirror's rows are working RAM's, and external RAM's
store has its write enable. -/
theorem switchedRegions : Obligations.SwitchedRegions := by
  intro s a v
  refine ⟨fun h k => ?vram, fun h k present => ?eram, fun h k => ?wram, fun h k => ?mirror, fun h k => ?hram⟩
  case vram =>
    have row := region_vram h (by omega)
    have ram : s.isRam a = true := by simp only [State.isRam, row]
    have cell : s.cellAt a = some (.vram, 8192 * s.vramSel.toNat + (a.toNat - 0x8000)) := by
      simp only [State.cellAt, row]
    exact State.access_of_isRam ram cell v
  case eram =>
    have row := region_eram h (by omega)
    have cell : s.cellAt a = some (.eram, 8192 * s.eramSel + (a.toNat - 0xA000)) := by
      simp only [State.cellAt, row, present, if_false]
    refine ⟨State.readByte_of_cell cell, ?_⟩
    simp only [State.writeByte, row, present, if_false, State.storeAt, cell]
    rfl
  case wram =>
    have row := region_wramHigh h (by omega)
    have ram : s.isRam a = true := State.isRam_wram (by omega) (by omega)
    have cell : s.cellAt a = some (.wram, 4096 * s.wramSel.toNat + (a.toNat - 0xD000)) := by
      simp only [State.cellAt, row]
    exact State.access_of_isRam ram cell v
  case mirror =>
    have below : (a - 0x2000#16).toNat = a.toNat - 0x2000 := by bv_omega
    exact State.access_congr (region_mirror h (by omega)) (State.isRam_wram (by omega) (by omega)) v
  case hram =>
    have row := region_hram h (by omega)
    have ram : s.isRam a = true := by simp only [State.isRam, row]
    have cell : s.cellAt a = some (.hram, a.toNat - 0xFF80) := by simp only [State.cellAt, row]
    exact State.access_of_isRam ram cell v

/-! ## The select registers -/

/-- 0 stands for 1, and every other value for itself (R45, R106, R110). -/
theorem aliasZero_toNat {w : Nat} (hw : 0 < w) (v : BitVec w) :
    (aliasZero v).toNat = if v.toNat = 0 then 1 else v.toNat := by
  by_cases h : v = 0
  · simp [aliasZero, h, hw]
  · have : v.toNat ≠ 0 := fun e => h (BitVec.eq_of_toNat_eq e)
    rw [aliasZero, if_neg h, if_neg this]

/-- So the value is never 0 (R50, R52, R53). -/
theorem aliasZero_ne_zero {w : Nat} (hw : 0 < w) (v : BitVec w) : aliasZero v ≠ 0 := by
  intro e
  have value := aliasZero_toNat hw v
  rw [e] at value
  split at value <;> simp_all

/-- Settles O49: the three registers are rows of the map of their own, without a cell. -/
theorem selectRegisters : Obligations.SelectRegisters := by
  intro s v
  have boot : region 0xFF50#16 = .bootUnmap := by decide
  have video : region 0xFF4F#16 = .vramSelect := by decide
  have work : region 0xFF70#16 = .wramSelect := by decide
  refine ⟨?_, ?_, ?_, ?_, fun colour => ⟨v.extractLsb' 0 1, aliasZero (v.extractLsb' 0 3), ?_, ?_, ?_, ?_⟩,
    fun mono => ⟨?_, ?_⟩⟩
  · simp only [State.readByte, State.cellAt, boot, openBus]
  · simp only [State.readByte, State.cellAt, video, openBus]
  · simp only [State.readByte, State.cellAt, work, openBus]
  · simp only [State.writeByte, boot]
  · simp only [State.writeByte, video, colour, if_true]
  · simp
  · simp only [State.writeByte, work, colour, if_true]
  · simp [aliasZero_toNat]
  · simp [State.writeByte, video, mono, State.diag, State.emit]
  · simp [State.writeByte, work, mono, State.diag, State.emit]

/-! ## The control registers -/

/-- What byte writes at the addresses `ok` keep, byte writes in a row at such addresses keep. -/
theorem State.writeAll_keeps {α : Type} {f : State → α} {ok : Word → Prop}
    (keep : ∀ (s : State) (x : Word) (v : Byte), ok x → f (s.writeByte x v) = f s) (s : State)
    {ws : List (Word × Byte)} (h : ∀ x ∈ ws.map Prod.fst, ok x) : f (s.writeAll ws) = f s := by
  induction ws generalizing s with
  | nil => rfl
  | cons w ws ih =>
    simp only [List.map_cons, List.forall_mem_cons] at h
    rw [State.writeAll_cons, ih _ h.2, keep _ _ _ h.1]

/-- A part `f` of the memory side that a byte write at the addresses `ok` keeps, an instruction keeps that stores at
such addresses alone. -/
theorem exec_keeps {α : Type} {f : State → α} {ok : Word → Prop} (mem : ∀ {u w : State}, SameMemory u w → f u = f w)
    (keep : ∀ (s : State) (x : Word) (v : Byte), ok x → f (s.writeByte x v) = f s) {i : Instr} {s t : State}
    (h : exec i s = .next t) (stored : ∀ x ∈ storedAddresses s i, ok x) : f t = f s := by
  obtain ⟨ws, hw, m⟩ := exec_stores h
  rw [mem m, State.writeAll_keeps keep s (hw ▸ stored)]

/-- The controller and the bank selects it makes. -/
def State.controller (s : State) : Mbc × Nat × Nat := (s.mbc, s.rom1Sel, s.eramSel)

theorem State.writeByte_controller (s : State) (x : Word) (v : Byte) (hx : 0x8000 ≤ x.toNat) :
    (s.writeByte x v).controller = s.controller := by
  have rom : ∀ o, region x ≠ .romLow o ∧ region x ≠ .romHigh o := fun o =>
    ⟨fun h => absurd (range_of_rom (.inl h)) (by omega), fun h => absurd (range_of_rom (.inr h)) (by omega)⟩
  unfold State.writeByte
  (repeat' split) <;> simp_all [State.controller]

theorem State.writeByte_vramSel (s : State) (x : Word) (v : Byte) (hx : x ≠ 0xFF4F#16) :
    (s.writeByte x v).vramSel = s.vramSel := by
  have row : region x ≠ .vramSelect := fun h => hx (region_eq_vramSelect h)
  unfold State.writeByte
  (repeat' split) <;> simp_all

theorem State.writeByte_wramSel (s : State) (x : Word) (v : Byte) (hx : x ≠ 0xFF70#16) :
    (s.writeByte x v).wramSel = s.wramSel := by
  have row : region x ≠ .wramSelect := fun h => hx (region_eq_wramSelect h)
  unfold State.writeByte
  (repeat' split) <;> simp_all

theorem State.writeByte_ifReg (s : State) (x : Word) (v : Byte) (hx : x ≠ 0xFF0F#16) :
    (s.writeByte x v).ifReg = s.ifReg := by
  have row : region x ≠ .ifReg := fun h => hx (region_eq_ifReg h)
  unfold State.writeByte
  (repeat' split) <;> simp_all

theorem State.writeByte_ieReg (s : State) (x : Word) (v : Byte) (hx : x ≠ 0xFFFF#16) :
    (s.writeByte x v).ieReg = s.ieReg := by
  have row : region x ≠ .ieReg := fun h => hx (region_eq_ieReg h)
  unfold State.writeByte
  (repeat' split) <;> simp_all

/-- Settles O26: each register's byte-write lemma, carried to instructions by their stored addresses. -/
theorem controlFrame : Obligations.ControlFrame := by
  intro i s t h
  have ne : ∀ {c : Word}, c ∉ storedAddresses s i → ∀ x ∈ storedAddresses s i, x ≠ c :=
    fun hc x hx e => hc (e ▸ hx)
  refine ⟨fun high => ?_, fun hc => ?_, fun hc => ?_, fun hc => ?_, fun hc => ?_, exec_par h,
    (exec_frame h).faultLatch, (exec_frame h).irqIn⟩
  · have keep := exec_keeps (f := State.controller) (fun m => by simp [State.controller, m.mbc, m.rom1Sel, m.eramSel])
      State.writeByte_controller h high
    simpa [State.controller] using keep
  · exact exec_keeps SameMemory.vramSel State.writeByte_vramSel h (ne hc)
  · exact exec_keeps SameMemory.wramSel State.writeByte_wramSel h (ne hc)
  · exact exec_keeps SameMemory.ifReg State.writeByte_ifReg h (ne hc)
  · exact exec_keeps SameMemory.ieReg State.writeByte_ieReg h (ne hc)

end Sys2Proof.Machine
end

section
/-!
PROOFS of the state claims, the invariant: every bank select is in range, a byte write keeps the invariant, so does an
instruction, so does a step; and the reset state has it.
-/

namespace Sys2Proof.Machine

/-! ## Bank selects in range -/

/-- The offset inside a row of the map lies inside the row's window (R82). -/
def Region.offsetOk : Region → Prop
  | .romLow o | .romHigh o => o < 16384
  | .vram o | .eram o => o < 8192
  | .wramLow o | .wramHigh o => o < 4096
  | .oam o => o < 160
  | .hram o => o < 127
  | .periph _ | .ifReg | .ieReg | .vramSelect | .bootUnmap | .wramSelect | .unmapped => True

theorem Region.offsetOk_of_pageRow {r : Region} (h : pageRow r = true) : r.offsetOk := by
  cases r <;> trivial

/-- Every address lies in its row at an offset inside the row's window (R82). -/
theorem region_offsetOk (a : Word) : (region a).offsetOk := by
  rcases address_cases a with k | k | k | k | k | k | k | k | k | k | k | k
  · rw [region_romLow k]; exact k
  · rw [region_romHigh k.1 k.2]; show _ < _; omega
  · rw [region_vram k.1 k.2]; show _ < _; omega
  · rw [region_eram k.1 k.2]; show _ < _; omega
  · rw [region_wramLow k.1 k.2]; show _ < _; omega
  · rw [region_wramHigh k.1 k.2]; show _ < _; omega
  · rw [region_mirror k.1 k.2]
    have e : (a - 0x2000#16).toNat = a.toNat - 0x2000 := by bv_omega
    by_cases j : a.toNat < 0xF000
    · rw [region_wramLow (by omega) (by omega)]; show _ < _; omega
    · rw [region_wramHigh (by omega) (by omega)]; show _ < _; omega
  · rw [region_oam k.1 k.2]; show _ < _; omega
  · rw [region_gap k.1 k.2]; trivial
  · rw [region_page k.1 k.2]; exact Region.offsetOk_of_pageRow (pageRow_registerPage _)
  · rw [region_hram k.1 k.2]; show _ < _; omega
  · subst k; trivial

/-- A number masked to a count that is a power of two is below the count (R102). -/
theorem and_bankMask_lt {n : Nat} (h : ∃ k, n = 2 ^ k) (number : Nat) : number &&& bankMask n < n := by
  obtain ⟨k, rfl⟩ := h
  exact bankIndex_lt number k

/-- The ROM bank that a controller's registers give is present (R102, R104). -/
theorem mappingOf_rom_lt {p : Params} (h : ParamsOk p) (m : Mbc) : (mappingOf p m).1 < p.nRom := by
  obtain ⟨k, hk, e⟩ := h.romCount
  have masked := and_bankMask_lt ⟨k, e⟩
  cases m with
  | none => rw [e]; exact Nat.one_lt_two_pow (by omega)
  | mbc1 r => cases hm : r.mode <;> simp [mappingOf, hm, masked]
  | mbc3 r => exact masked _
  | mbc5 r => exact masked _

/-- The external RAM bank that a controller's registers give is present, if any is (R102, R104). -/
theorem mappingOf_eram_lt {p : Params} (h : ParamsOk p) (m : Mbc) (present : p.nEram ≠ 0) :
    (mappingOf p m).2 < p.nEram := by
  have masked := and_bankMask_lt (h.eramCount.resolve_left present)
  cases m with
  | none => exact Nat.pos_of_ne_zero present
  | mbc1 r => cases hm : r.mode <;> simp [mappingOf, hm, present, masked, Nat.pos_of_ne_zero present]
  | mbc3 r => simp [mappingOf, present, masked]
  | mbc5 r => simp [mappingOf, present, masked]

theorem Inv.rom1Sel_lt {s : State} (h : Inv s) : s.rom1Sel < s.par.nRom := by
  have := mappingOf_rom_lt h.params s.mbc
  rwa [← h.mapping] at this

theorem Inv.eramSel_lt {s : State} (h : Inv s) (present : s.par.nEram ≠ 0) : s.eramSel < s.par.nEram := by
  have := mappingOf_eram_lt h.params s.mbc present
  rwa [← h.mapping] at this

theorem Inv.vramSel_lt {s : State} (h : Inv s) : s.vramSel.toNat < vramBanks s.par := by
  cases hc : s.par.colorMode with
  | true => simpa [vramBanks, hc] using s.vramSel.isLt
  | false => simp [vramBanks, hc, (h.mono hc).1]

/-- Every cell that an address names lies inside its array (R46, R121). -/
theorem Inv.cellAt_lt {s : State} (h : Inv s) {a : Word} {x : Store × Nat} (hx : s.cellAt a = some x) :
    x.2 < storeSize s.par x.1 := by
  have offset := region_offsetOk a
  have rom := h.rom1Sel_lt
  have vram := h.vramSel_lt
  have wram := s.wramSel.isLt
  obtain ⟨k, hk, banks⟩ := h.params.romCount
  have : 0 < s.par.nRom := by omega
  cases hr : region a with
  | romLow o =>
    rw [hr] at offset
    simp only [State.cellAt, hr] at hx
    split at hx <;> cases hx
    · rename_i covered
      simp only [Bool.and_eq_true, decide_eq_true_eq] at covered
      exact covered.2
    · simp only [storeSize, State.rom0Sel, Region.offsetOk] at *
      omega
  | eram o =>
    rw [hr] at offset
    simp only [State.cellAt, hr] at hx
    split at hx <;> cases hx
    have := h.eramSel_lt ‹_›
    simp only [storeSize, Region.offsetOk] at *
    omega
  | romHigh o | vram o | wramLow o | wramHigh o | oam o | hram o =>
    rw [hr] at offset
    simp only [State.cellAt, hr] at hx
    cases hx
    simp only [storeSize, State.wramLoSel, Region.offsetOk] at *
    omega
  | _ =>
    simp only [State.cellAt, hr] at hx
    cases hx

/-- Settles O18: the selects below their counts, and from them every named cell inside its array. -/
theorem invKeepsBanksPresent : Obligations.InvKeepsBanksPresent := by
  intro s h
  have ne : s.wramSel.toNat ≠ 0 := fun e => h.wramSel (BitVec.eq_of_toNat_eq e)
  have lt := s.wramSel.isLt
  exact ⟨h.rom1Sel_lt, h.eramSel_lt, h.vramSel_lt, ⟨by omega, by omega⟩, fun a x hx => h.cellAt_lt hx⟩

/-! ## The invariant -/

/-- The invariant looks at F, the parameters, the arrays, the mapping and the controller, and at nothing else. -/
theorem Inv.congr {s t : State} (h : Inv s) (hf : t.f &&& 0x0F#8 = 0#8) (hp : t.par = s.par) (hv : t.vram = s.vram)
    (he : t.eram = s.eram) (hw : t.wram = s.wram) (ho : t.oam = s.oam) (hh : t.hram = s.hram) (hm : t.mbc = s.mbc)
    (h1 : t.rom1Sel = s.rom1Sel) (h2 : t.eramSel = s.eramSel) (h3 : t.vramSel = s.vramSel)
    (h4 : t.wramSel = s.wramSel) (hb : t.bootActive = s.bootActive) : Inv t where
  params := by rw [hp]; exact h.params
  flagsLow := hf
  vram := by rw [hp, hv]; exact h.vram
  eram := by rw [hp, he]; exact h.eram
  wram := by rw [hw]; exact h.wram
  oam := by rw [ho]; exact h.oam
  hram := by rw [hh]; exact h.hram
  kind := by rw [hp, hm]; exact h.kind
  aliased := by rw [hm]; exact h.aliased
  mapping := by rw [hp, hm, h1, h2]; exact h.mapping
  wramSel := by rw [h4]; exact h.wramSel
  mono := by rw [hp, h3, h4]; exact h.mono
  overlay := by rw [hp, hb]; exact h.overlay

/-- The memory side and F's low nibble are all the invariant looks at. -/
theorem Inv.of_sameMemory {s t : State} (h : Inv s) (m : SameMemory t s) (hf : t.f &&& 0x0F#8 = 0#8) : Inv t :=
  h.congr hf m.par m.vram m.eram m.wram m.oam m.hram m.mbc m.rom1Sel m.eramSel m.vramSel m.wramSel m.bootActive

/-- A store inside an array keeps the invariant (R46). -/
theorem Inv.setCell {s : State} (h : Inv s) {x : Store × Nat} (hx : x.2 < storeSize s.par x.1) (v : Byte) :
    Inv (s.setCell x v) := by
  obtain ⟨k, n⟩ := x
  cases k with
  | rom => exact h
  | boot => exact h
  | vram => exact { h with vram := Memory.arrayOk_write v h.vram hx }
  | eram => exact { h with eram := Memory.arrayOk_write v h.eram hx }
  | wram => exact { h with wram := Memory.arrayOk_write v h.wram hx }
  | oam => exact { h with oam := Memory.arrayOk_write v h.oam hx }
  | hram => exact { h with hram := Memory.arrayOk_write v h.hram hx }

/-- A store through the map keeps the invariant: the cell an address names lies inside its array. -/
theorem Inv.storeAt {s : State} (h : Inv s) (a : Word) (v : Byte) : Inv (s.storeAt a v) := by
  unfold State.storeAt
  split
  · exact h.setCell (h.cellAt_lt ‹_›) v
  · exact h

theorem Inv.emit {s : State} (h : Inv s) (e : Event) : Inv (s.emit e) := { h with }

/-- The controller of a well-kept state in session `p`: the session's kind, no bank number 0 where it may not be, the
mapping the one its registers give (R52, R53, R101, R103). -/
structure ControllerOk (p : Params) (s : State) : Prop where
  kind : mbcKind s.mbc = p.kind
  aliased : mbcAliased s.mbc
  mapping : (s.rom1Sel, s.eramSel) = mappingOf p s.mbc

/-- An MBC1 register write remaps from the new registers (R104, R106). -/
theorem ControllerOk.remap1 {s : State} (kind : s.par.kind = .mbc1) {r : Mbc1} (hr : r.bankLo ≠ 0) :
    ControllerOk s.par (s.remap1 r) := by
  unfold State.remap1
  cases hm : r.mode <;>
    exact ⟨kind.symm, hr, by simp [mappingOf, hm, bankIndex, State.eramIndex, Nat.mul_comm]⟩

theorem ControllerOk.write1 {s : State} {r : Mbc1} (hm : s.mbc = .mbc1 r) (h : ControllerOk s.par s) (n : Nat)
    (v : Byte) : ControllerOk s.par (s.write1 r n v) := by
  obtain ⟨kind, aliased, mapping⟩ := h
  rw [hm] at kind aliased mapping
  unfold State.write1
  split
  · exact ⟨by simpa [mbcKind] using kind, by simpa [mbcAliased] using aliased, by simpa [mappingOf] using mapping⟩
  split
  · exact .remap1 kind.symm (aliasZero_ne_zero (by omega) _)
  split
  · exact .remap1 kind.symm aliased
  · exact .remap1 kind.symm aliased

theorem ControllerOk.write3 {s : State} {r : Mbc3} (hm : s.mbc = .mbc3 r) (h : ControllerOk s.par s) (n : Nat)
    (v : Byte) : ControllerOk s.par (s.write3 r n v) := by
  have same := h
  obtain ⟨kind, aliased, mapping⟩ := h
  rw [hm] at kind aliased mapping
  simp only [mappingOf, Prod.mk.injEq] at mapping
  unfold State.write3
  split
  · exact ⟨by simpa [mbcKind] using kind, by simpa [mbcAliased] using aliased, by simpa [mappingOf] using mapping⟩
  split
  · exact ⟨kind, aliasZero_ne_zero (by omega) _, by simp [mappingOf, bankIndex, mapping.2]⟩
  split
  · exact ⟨kind, aliased, by simp [mappingOf, bankIndex, State.eramIndex, mapping.1]⟩
  · exact same

theorem ControllerOk.write5 {s : State} {r : Mbc5} (hm : s.mbc = .mbc5 r) (h : ControllerOk s.par s) (n : Nat)
    (v : Byte) : ControllerOk s.par (s.write5 r n v) := by
  have same := h
  obtain ⟨kind, aliased, mapping⟩ := h
  rw [hm] at kind aliased mapping
  simp only [mappingOf, Prod.mk.injEq] at mapping
  unfold State.write5
  split
  · exact ⟨by simpa [mbcKind] using kind, by simp [mbcAliased], by simpa [mappingOf] using mapping⟩
  split
  · exact ⟨kind, trivial, by simp [State.remap5, mappingOf, bankIndex, mapping.2, Nat.mul_comm]⟩
  split
  · exact ⟨kind, trivial, by simp [State.remap5, mappingOf, bankIndex, mapping.2, Nat.mul_comm]⟩
  split
  · exact ⟨kind, trivial, by simp [mappingOf, bankIndex, State.eramIndex, mapping.1]⟩
  · exact same

/-- A ROM-range write, whichever controller is active, leaves the controller well kept (R100). -/
theorem ControllerOk.romWrite {s : State} (h : ControllerOk s.par s) (a : Word) (v : Byte) :
    ControllerOk s.par (s.romWrite a v) := by
  unfold State.romWrite
  split
  · exact ⟨h.kind, h.aliased, h.mapping⟩
  · exact .write1 ‹_› h _ v
  · exact .write3 ‹_› h _ v
  · exact .write5 ‹_› h _ v

/-- A ROM-range write keeps the invariant: it goes to the controller alone (R100). -/
theorem Inv.romWrite {s : State} (h : Inv s) (a : Word) (v : Byte) : Inv (s.romWrite a v) :=
  have controller := ControllerOk.romWrite ⟨h.kind, h.aliased, h.mapping⟩ a v
  { params := by simpa using h.params
    flagsLow := by simpa using h.flagsLow
    vram := by simpa using h.vram
    eram := by simpa using h.eram
    wram := by simpa using h.wram
    oam := by simpa using h.oam
    hram := by simpa using h.hram
    kind := by simpa using controller.kind
    aliased := controller.aliased
    mapping := by simpa using controller.mapping
    wramSel := by simpa using h.wramSel
    mono := by simpa using h.mono
    overlay := by simpa using h.overlay }

/-- A byte write keeps the invariant, wherever it goes (R81). -/
theorem Inv.writeByte {s : State} (h : Inv s) (a : Word) (v : Byte) : Inv (s.writeByte a v) := by
  unfold State.writeByte
  cases region a with
  | romLow o | romHigh o => exact h.romWrite a v
  | vram o | wramLow o | wramHigh o | oam o | hram o => exact h.storeAt a v
  | eram o =>
    dsimp only
    split
    · exact h.emit _
    split
    · exact h.storeAt a v
    · exact h
  | periph p =>
    dsimp only
    split <;> exact h.emit _
  | ifReg => exact { h with }
  | ieReg => exact { h with }
  | vramSelect =>
    dsimp only
    split
    case isTrue colour => exact { h with mono := fun mono => by simp [colour] at mono }
    case isFalse => exact h.emit _
  | wramSelect =>
    dsimp only
    split
    case isTrue colour =>
      exact { h with
        wramSel := aliasZero_ne_zero (by omega) _
        mono := fun mono => by simp [colour] at mono }
    case isFalse => exact h.emit _
  | bootUnmap => exact { h with overlay := fun _ => rfl }
  | unmapped => exact h.emit _

theorem Inv.writeAll {s : State} (h : Inv s) (ws : List (Word × Byte)) : Inv (s.writeAll ws) := by
  induction ws generalizing s with
  | nil => exact h
  | cons w ws ih => exact ih (h.writeByte w.1 w.2)

/-- An instruction keeps the invariant: it writes bytes, and F as the flag summary says (O22). -/
theorem Inv.of_exec {s t : State} (h : Inv s) {i : Instr} (e : exec i s = .next t) : Inv t := by
  obtain ⟨ws, -, m⟩ := exec_stores e
  obtain ⟨-, -, -, -, low, -⟩ := flagSummary i s t e
  exact (h.writeAll ws).of_sameMemory m (low h.flagsLow)

theorem Inv.beginStep_wake {s : State} (h : Inv s) : Inv s.beginStep.wake :=
  h.congr (by simpa using h.flagsLow) (by simp) (by simp) (by simp) (by simp) (by simp) (by simp) (by simp) (by simp)
    (by simp) (by simp) (by simp) (by simp)

theorem Inv.fetchBytes {s : State} (h : Inv s) : Inv s.fetchBytes.2 := by
  obtain ⟨_, _, _, e⟩ := s.afterFetch_iterate (instrLength (s.readByte s.pc))
  rw [State.fetchBytes_eq, e]
  exact { h with }

theorem Inv.push {s : State} (h : Inv s) (v : Word) : Inv (s.push v) :=
  ((h.writeByte _ _).writeByte _ _).of_sameMemory (.push s v) (by simpa using h.flagsLow)

/-- The interrupt entry keeps the invariant: it pushes PC and clears a bit of IF (R412). -/
theorem Inv.serviceInterrupt {s : State} (h : Inv s) (n : Nat) : Inv (s.serviceInterrupt n) := by
  have entered : Inv { s with halted := false, ime := false, ifReg := s.ifReg &&& ~~~(1#8 <<< n) } := { h with }
  exact { entered.push s.pc with }

/-- Settles O17: a step is a service, a cycle at rest or a fetch and an instruction (`step_cases`), and each keeps the
invariant. -/
theorem stepKeepsInv : Obligations.StepKeepsInv := by
  intro s t h e
  obtain ⟨-, u, rfl, outcome⟩ := step_cases e
  have start := h.beginStep_wake
  rcases outcome with ⟨-, rfl⟩ | ⟨-, -, rfl⟩ | ⟨-, -, i, rest, -, run⟩
  · exact start.serviceInterrupt _
  · exact { start with }
  · exact start.fetchBytes.of_exec run

/-! ## Reset -/

/-- Reset with sound parameters has the invariant (R60): ROM bank 1 is present since there are at least two. -/
theorem Inv.resetWith {p : Params} (ok : ParamsOk p) : Inv (State.resetWith p) where
  params := ok
  flagsLow := by simp [State.resetWith]
  vram := ok.vram
  eram := ok.eram
  wram := ok.wram
  oam := ok.oam
  hram := ok.hram
  kind := by cases h : p.kind <;> simp [State.resetWith, Mbc.reset, h, mbcKind]
  aliased := by cases h : p.kind <;> simp [State.resetWith, Mbc.reset, h, mbcAliased]
  mapping := by
    obtain ⟨k, hk, banks⟩ := ok.romCount
    have one : 1 &&& bankMask p.nRom = 1 := by
      rw [banks, bankMask_two_pow, Nat.and_two_pow_sub_one_eq_mod]
      exact Nat.mod_eq_of_lt (Nat.one_lt_two_pow (by omega))
    cases h : p.kind <;> simp [State.resetWith, Mbc.reset, h, mappingOf, one]
  wramSel := by simp [State.resetWith]
  mono := fun _ => ⟨rfl, rfl⟩
  overlay := fun absent => decide_eq_false fun present => present absent

theorem bootBytes_pos {b : BootSize} : 0 < bootBytes b ↔ b ≠ .absent := by
  cases b <;> decide

/-- Settles O16: the register values by the reset state's definition, the controller by its kind, and the invariant by
`Inv.resetWith`. -/
theorem resetValues : Obligations.ResetValues := by
  rintro u p s rfl rfl
  have overlay : u.hostReset.bootActive = true ↔ 0 < bootBytes u.par.bootSize := by
    rw [bootBytes_pos]
    exact decide_eq_true_iff
  refine ⟨rfl, Inv.resetWith, fun r => by cases r <;> rfl, rfl, rfl, rfl, rfl, rfl, rfl, rfl, overlay, rfl, rfl, rfl,
    rfl, rfl, ?_, rfl, rfl, rfl, rfl, rfl⟩
  cases h : u.par.kind <;> simp [State.hostReset, State.resetWith, Mbc.reset, h]

theorem paramsOk_standard : ParamsOk Params.standard where
  romCount := ⟨1, le_refl 1, rfl⟩
  eramCount := .inl rfl
  rom := rfl
  boot := rfl
  eram := rfl
  vram := rfl
  wram := rfl
  oam := rfl
  hram := rfl

/-- Settles O15: the standard parameters are sound, and reset with sound parameters has the invariant. -/
theorem resetHasInv : Obligations.ResetHasInv := Inv.resetWith paramsOk_standard

end Sys2Proof.Machine
end

section
/-!
PROOFS of the memory claims, the address map (spec 20_memory.md R82 to R99): the ROM range with the boot overlay, the
fixed RAM rows, the registers IF and IE, and the addresses nothing claims.
-/

namespace Sys2Proof.Machine

/-! ## The ROM range -/

/-- Below 0x4000 an address names bank 0, or the boot image where the active overlay covers it (R83, R84). -/
theorem State.cellAt_romLow {s : State} {a : Word} (h : a.toNat < 0x4000) :
    s.cellAt a = some (if s.bootActive = true ∧ a.toNat < bootBytes s.par.bootSize then (.boot, a.toNat)
      else (.rom, a.toNat)) := by
  simp only [State.cellAt, region_romLow h, State.rom0Sel, Bool.and_eq_true, decide_eq_true_eq, Nat.mul_zero,
    Nat.zero_add]
  split <;> rfl

/-- From 0x4000 to 0x7FFF an address names the bank ROM1_SEL (R85). -/
theorem State.cellAt_romHigh {s : State} {a : Word} (h : 0x4000 ≤ a.toNat) (k : a.toNat < 0x8000) :
    s.cellAt a = some (.rom, 16384 * s.rom1Sel + (a.toNat - 0x4000)) := by
  simp only [State.cellAt, region_romHigh h k]

/-- Settles O44: each part of the range reads the cell it names. -/
theorem romReads : Obligations.RomReads := by
  intro s a
  refine ⟨fun h uncovered => ?_, fun h active covered => ?_, fun h k => ?_⟩
  · have cell := State.cellAt_romLow (s := s) h
    rw [if_neg uncovered] at cell
    exact State.readByte_of_cell cell
  · have cell := State.cellAt_romLow (s := s) h
    rw [if_pos ⟨active, covered⟩] at cell
    exact State.readByte_of_cell cell
  · exact State.readByte_of_cell (State.cellAt_romHigh h k)

/-! ## Fixed RAM and the registers IF and IE -/

/-- A read of IF gives its eight bits, and a write stores them (R99). -/
theorem State.access_ifReg {s : State} {a : Word} (row : region a = .ifReg) (v : Byte) :
    s.readByte a = s.ifReg ∧ s.writeByte a v = { s with ifReg := v } := by
  simp only [State.readByte, State.cellAt, State.writeByte, row, and_self]

/-- A read of IE gives its eight bits, and a write stores them (R99). -/
theorem State.access_ieReg {s : State} {a : Word} (row : region a = .ieReg) (v : Byte) :
    s.readByte a = s.ieReg ∧ s.writeByte a v = { s with ieReg := v } := by
  simp only [State.readByte, State.cellAt, State.writeByte, row, and_self]

/-- Settles O45: the two RAM rows read and store the cell they name, IF and IE are rows of their own, and the interrupt
check's three operands are those reads and the mask. -/
theorem fixedRamAndRegisters : Obligations.FixedRamAndRegisters := by
  intro s a v
  obtain ⟨readIf, writeIf⟩ := State.access_ifReg (s := s) (a := 0xFF0F#16) (by decide) v
  obtain ⟨readIe, writeIe⟩ := State.access_ieReg (s := s) (a := 0xFFFF#16) (by decide) v
  refine ⟨fun h k => ?wram, fun h k => ?oam, readIf, writeIf, readIe, writeIe, ?pending⟩
  case wram =>
    have row := region_wramLow h (by omega)
    have ram : s.isRam a = true := State.isRam_wram h (by omega)
    have cell : s.cellAt a = some (.wram, a.toNat - 0xC000) := by
      simp only [State.cellAt, row, State.wramLoSel, Nat.mul_zero, Nat.zero_add]
    exact State.access_of_isRam ram cell v
  case oam =>
    have row := region_oam h (by omega)
    have ram : s.isRam a = true := by simp only [State.isRam, row]
    have cell : s.cellAt a = some (.oam, a.toNat - 0xFE00) := by simp only [State.cellAt, row]
    exact State.access_of_isRam ram cell v
  case pending => rw [readIf, readIe, State.pending]

/-! ## Addresses nothing claims -/

/-- Settles O48: the gap and the holes are the map's unmapped row; absent external RAM answers as that row does. -/
theorem unmappedAddresses : Obligations.UnmappedAddresses := by
  intro s a v h
  rcases h with hole | ⟨low, high, absent⟩
  · have row := region_unclaimed hole
    refine ⟨?_, ?_, ?_⟩
    · simp only [State.readByte, State.cellAt, row, openBus]
    · simp only [State.afterRead, row, State.diag, State.emit]
    · simp only [State.writeByte, row, State.diag, State.emit]
  · have row := region_eram low (by omega)
    refine ⟨?_, ?_, ?_⟩
    · simp only [State.readByte, State.cellAt, row, absent, if_true, openBus]
    · simp only [State.afterRead, row, absent, if_true, State.diag, State.emit]
    · simp only [State.writeByte, row, absent, if_true, State.diag, State.emit]

end Sys2Proof.Machine
end

section
/-!
PROOFS of the memory claims, the bank controllers and the cartridge (spec 20_memory.md R100 to R120): ROM-range writes,
the registers and the mapping of each controller, the bank mask and the header.
-/

namespace Sys2Proof.Machine

/-! ## ROM-range writes -/

/-- Settles O52: such a write is the controller's, which changes neither the parameters nor a cell. -/
theorem romRangeWrites : Obligations.RomRangeWrites := by
  intro s a v h
  refine ⟨State.writeByte_rom h, State.writeByte_par s a v, fun x => ?_⟩
  rw [State.writeByte_rom h, State.cell_romWrite]

theorem State.writeByte_mbc1 {s : State} {r : Mbc1} {a : Word} {v : Byte} (hm : s.mbc = .mbc1 r)
    (h : a.toNat < 0x8000) : s.writeByte a v = s.write1 r (a.toNat / 0x1000) v := by
  rw [State.writeByte_rom h, State.romWrite, hm]

theorem State.writeByte_mbc3 {s : State} {r : Mbc3} {a : Word} {v : Byte} (hm : s.mbc = .mbc3 r)
    (h : a.toNat < 0x8000) : s.writeByte a v = s.write3 r (a.toNat / 0x1000) v := by
  rw [State.writeByte_rom h, State.romWrite, hm]

theorem State.writeByte_mbc5 {s : State} {r : Mbc5} {a : Word} {v : Byte} (hm : s.mbc = .mbc5 r)
    (h : a.toNat < 0x8000) : s.writeByte a v = s.write5 r (a.toNat / 0x1000) v := by
  rw [State.writeByte_rom h, State.romWrite, hm]

theorem State.writeByte_mbcNone {s : State} {a : Word} {v : Byte} (hm : s.mbc = .none) (h : a.toNat < 0x8000) :
    s.writeByte a v = s.diag .romWrite a := by
  rw [State.writeByte_rom h, State.romWrite, hm]

/-- The RAM-enable test looks at the low nibble (R103). -/
theorem enableValue_eq (v : Byte) : enableValue v = decide (v.toNat % 16 = 10) := by
  have low : (v &&& 0x0F#8).toNat = v.toNat % 16 := by
    rw [BitVec.toNat_and]
    exact Nat.and_two_pow_sub_one_eq_mod v.toNat 4
  rw [enableValue, ← low]
  exact decide_eq_decide.2 BitVec.toNat_inj.symm

/-- A write of RAM_EN, whatever the controller: its registers are stored, and a fall requests the save (R105, R112). -/
theorem State.ramEnable_eq (s : State) (m : Mbc) (old : Bool) (v : Byte) :
    { s with mbc := m }.saveOnDisable old (enableValue v) =
      { s with mbc := m,
               events := s.events ++ (if old = true ∧ v.toNat % 16 ≠ 10 then [.saveReq] else []) } := by
  rw [enableValue_eq]
  by_cases falls : old = true ∧ v.toNat % 16 ≠ 10
  · simp [State.saveOnDisable, State.emit, falls]
  · rw [if_neg falls, List.append_nil, State.saveOnDisable, if_neg (by simpa using falls)]

/-- MBC1 stores its registers and the mapping they give (R109). -/
theorem State.remap1_eq (s : State) (q : Mbc1) :
    s.remap1 q = { s with mbc := .mbc1 q, rom1Sel := (mappingOf s.par (.mbc1 q)).1,
                          eramSel := (mappingOf s.par (.mbc1 q)).2 } := by
  cases hm : q.mode <;> simp [State.remap1, mappingOf, hm, bankIndex, State.eramIndex, Nat.mul_comm]

/-- Settles O53: RAM_EN below 0x2000; above, each range of nibbles stores one register and remaps. -/
theorem mbc1Writes : Obligations.Mbc1Writes := by
  intro s r a v hm
  refine ⟨fun h => ?_, fun h k => ?_⟩
  · rw [State.writeByte_mbc1 hm (by omega), State.write1, if_pos (by omega), State.ramEnable_eq, enableValue_eq]
  · rw [State.writeByte_mbc1 hm k]
    by_cases lo : a.toNat < 0x4000
    · simp (disch := omega) only [State.write1, if_neg, if_pos]
      exact ⟨_, State.remap1_eq s _, rfl, by simp [aliasZero_toNat], rfl, rfl⟩
    by_cases hi : a.toNat < 0x6000
    · simp (disch := omega) only [State.write1, if_neg, if_pos]
      exact ⟨_, State.remap1_eq s _, rfl, rfl, by simp, rfl⟩
    · simp (disch := omega) only [State.write1, if_neg, if_pos]
      exact ⟨_, State.remap1_eq s _, rfl, rfl, rfl, by simp [BitVec.getLsbD, Nat.testBit_zero]⟩

/-- Settles O54: each range of nibbles is one branch of the controller's write; NONE has one for all of them. -/
theorem otherControllerWrites : Obligations.OtherControllerWrites := by
  refine ⟨fun s r a v hm => ⟨fun h => ?mbc3RamEn, fun h k => ?mbc3Rom, fun h k => ?mbc3Ram, fun h k => ?mbc3Rest⟩,
    fun s r a v hm => ⟨fun h => ?mbc5RamEn, fun h k => ?mbc5RomLo, fun h k => ?mbc5RomHi, fun h k => ?mbc5Ram,
      fun h k => ?mbc5Rest⟩, fun s a v hm h => State.writeByte_mbcNone hm h⟩
  case mbc3RamEn =>
    rw [State.writeByte_mbc3 hm (by omega), State.write3, if_pos (by omega), State.ramEnable_eq, enableValue_eq]
  case mbc3Rom =>
    refine ⟨aliasZero (v.extractLsb' 0 7), by simp [aliasZero_toNat], ?_⟩
    rw [State.writeByte_mbc3 hm (by omega), State.write3, if_neg (by omega), if_pos (by omega)]
    rfl
  case mbc3Ram =>
    refine ⟨v.extractLsb' 0 2, by simp, ?_⟩
    rw [State.writeByte_mbc3 hm (by omega), State.write3, if_neg (by omega), if_neg (by omega), if_pos (by omega)]
    rfl
  case mbc3Rest =>
    rw [State.writeByte_mbc3 hm k, State.write3, if_neg (by omega), if_neg (by omega), if_neg (by omega)]
  case mbc5RamEn =>
    rw [State.writeByte_mbc5 hm (by omega), State.write5, if_pos (by omega), State.ramEnable_eq, enableValue_eq]
  case mbc5RomLo =>
    rw [State.writeByte_mbc5 hm (by omega), State.write5, if_neg (by omega), if_pos (by omega)]
    rfl
  case mbc5RomHi =>
    refine ⟨v.extractLsb' 0 1, by simp, ?_⟩
    rw [State.writeByte_mbc5 hm (by omega), State.write5, if_neg (by omega), if_neg (by omega), if_pos (by omega)]
    rfl
  case mbc5Ram =>
    refine ⟨v.extractLsb' 0 4, by simp, ?_⟩
    rw [State.writeByte_mbc5 hm (by omega), State.write5, if_neg (by omega), if_neg (by omega), if_neg (by omega),
      if_pos (by omega)]
    rfl
  case mbc5Rest =>
    rw [State.writeByte_mbc5 hm k, State.write5, if_neg (by omega), if_neg (by omega), if_neg (by omega),
      if_neg (by omega)]

/-! ## The bank mask -/

/-- Settles O55: doubling stops at the first power of two at or above the count. -/
theorem bankMaskRule : Obligations.BankMaskRule := by
  refine ⟨fun n _ => ?_, fun number k => ⟨rfl, bankIndex_lt number k⟩⟩
  obtain ⟨k, mask, enough, least⟩ := growMask_spec n 0 n (by omega) (.inl rfl)
  refine ⟨k, mask, enough, fun j hj => ?_⟩
  rcases least with rfl | below
  · exact Nat.zero_le j
  · have := (Nat.pow_lt_pow_iff_right (a := 2) (by omega)).1 (below.trans_le hj)
    omega

/-! ## The cartridge header -/

/-- The recognised type bytes (R119). -/
theorem kindOfType_isSome (t : Byte) : (kindOfType t).isSome = true ↔
    t.toNat ∈ [0x00, 0x08, 0x09, 0x01, 0x02, 0x03, 0x11, 0x12, 0x13, 0x19, 0x1A, 0x1B] := by
  unfold kindOfType
  split <;> simp_all

/-- The recognised ROM-size codes (R120). -/
theorem romBanksOfCode_isSome (c : Byte) : (romBanksOfCode c).isSome = true ↔ c.toNat ≤ 8 := by
  unfold romBanksOfCode
  split <;> simp_all

/-- The recognised RAM-size codes (R120). -/
theorem eramBanksOfCode_isSome (d : Byte) : (eramBanksOfCode d).isSome = true ↔ d.toNat ≤ 5 := by
  unfold eramBanksOfCode
  split <;> simp_all
  omega

/-- The latch is NONE exactly when the type and the sizes are recognised, whichever code wins otherwise (R118). -/
theorem faultOfHeader_eq_none (typeOk sizeOk : Bool) :
    faultOfHeader typeOk sizeOk = .none ↔ typeOk = true ∧ sizeOk = true := by
  cases typeOk <;> cases sizeOk
  case false.false => cases h : Config.typeFaultWins <;> simp [faultOfHeader, h]
  all_goals simp [faultOfHeader]

/-- With the sizes recognised the type byte alone can be at fault (R118). -/
theorem faultOfHeader_of_sizeOk (typeOk : Bool) :
    faultOfHeader typeOk true = .none ∨ faultOfHeader typeOk true = .badCartType := by
  cases typeOk <;> simp [faultOfHeader]

/-- With the type recognised a size code alone can be at fault (R118). -/
theorem faultOfHeader_of_typeOk (sizeOk : Bool) :
    faultOfHeader true sizeOk = .none ∨ faultOfHeader true sizeOk = .badCartSize := by
  cases sizeOk <;> simp [faultOfHeader]

/-- Settles O56: kind and counts by the rows of their tables, the latch by the three recognition rules. -/
theorem headerDecode : Obligations.HeaderDecode := by
  rintro p t c d rfl rfl rfl
  refine ⟨fun h => ?_, fun h => ?_, fun h => ?_, fun h => ?_, fun h => ?rom, fun n h => ?eram, ?fault⟩
  case rom => simp only [attach, romBanksOfCode, h, if_true, Option.getD_some]
  case eram =>
    simp only [List.mem_cons, Prod.mk.injEq, List.not_mem_nil, or_false] at h
    rcases h with ⟨h, rfl⟩ | ⟨h, rfl⟩ | ⟨h, rfl⟩ | ⟨h, rfl⟩ | ⟨h, rfl⟩ | ⟨h, rfl⟩ <;>
      simp only [attach, eramBanksOfCode, h, Option.getD_some]
  case fault =>
    rw [← kindOfType_isSome, ← romBanksOfCode_isSome, ← eramBanksOfCode_isSome]
    have latch : (attach p).attachFault = faultOfHeader (kindOfType (p.rom.read 0x0147)).isSome
      ((romBanksOfCode (p.rom.read 0x0148)).isSome && (eramBanksOfCode (p.rom.read 0x0149)).isSome) := rfl
    rw [latch]
    refine ⟨?_, fun rom eram => ?_, fun kind => ?_⟩
    · rw [faultOfHeader_eq_none, Bool.and_eq_true]
    · rw [rom, eram]
      exact faultOfHeader_of_sizeOk _
    · rw [kind]
      exact faultOfHeader_of_typeOk _
  all_goals
    simp only [List.mem_cons, List.not_mem_nil, or_false] at h
    rcases h with h | h | h <;> simp only [attach, kindOfType, h, Option.getD_some]

end Sys2Proof.Machine
end

section
/-!
PROOFS of the memory claims, stores and frames (spec 20_memory.md R71 to R80, R125): a byte or a word stored in RAM
reads back, a byte write changes the cell and the bytes it reaches alone, and so does every instruction with its stored
addresses.
-/

namespace Sys2Proof.Machine

/-! ## A store reads back -/

/-- A read after a store in RAM: the byte stored at every address of that cell, the old byte elsewhere (R125). -/
theorem State.readByte_writeByte_of_isRam {s : State} (wf : s.arraysWf) {a : Word} {x : Store × Nat}
    (ram : s.isRam a = true) (cell : s.cellAt a = some x) (v : Byte) (b : Word) :
    (s.writeByte a v).readByte b = if s.cellAt b = some x then v else s.readByte b := by
  obtain ⟨y, hy, writable⟩ := State.cell_of_isRam ram
  obtain rfl : y = x := Option.some.inj (hy.symm.trans cell)
  rw [State.writeByte_of_isRam ram cell, State.readByte_setCell wf v writable]

/-- Where a store lands: RAM, IF or IE. -/
theorem State.storable_cases {s : State} {a : Word} (h : s.storable a = true) :
    s.isRam a = true ∨ region a = .ifReg ∨ region a = .ieReg := by
  unfold State.storable at h
  unfold State.isRam
  split at h <;> simp_all

/-- Settles O50: in RAM the stored cell is the one read; IF and IE hold the byte stored. -/
theorem storeThenLoad : Obligations.StoreThenLoad := by
  intro s a v inv h
  rcases State.storable_cases h with ram | row | row
  · obtain ⟨x, cell, -⟩ := State.cell_of_isRam ram
    rw [State.readByte_writeByte_of_isRam inv.arraysWf ram cell, if_pos cell]
  · rw [(State.access_ifReg row v).2]
    exact (State.access_ifReg row v).1
  · rw [(State.access_ieReg row v).2]
    exact (State.access_ieReg row v).1

/-- Settles O57: the two stores land in different cells, each where it reads back. -/
theorem wordOrder : Obligations.WordOrder := by
  intro s a v inv ramLo ramHi
  obtain ⟨x, cellLo, -⟩ := State.cell_of_isRam ramLo
  obtain ⟨y, cellHi, -⟩ := State.cell_of_isRam ramHi
  have first : s.writeByte a (loByte v) = s.setCell x (loByte v) := State.writeByte_of_isRam ramLo cellLo _
  have cellAt : ∀ b, (s.writeByte a (loByte v)).cellAt b = s.cellAt b := fun b => by rw [first, State.cellAt_setCell]
  have ramHi' : (s.writeByte a (loByte v)).isRam (a + 1) = true := by
    rw [first, State.isRam_congr (State.setCell_par s x _) (State.setCell_mbc s x _), ramHi]
  have second := State.readByte_writeByte_of_isRam (inv.writeByte a (loByte v)).arraysWf ramHi'
    ((cellAt _).trans cellHi) (hiByte v)
  have lo : (s.writeWord a v).readByte a = loByte v := by
    have other : s.cellAt a ≠ some y := fun e => State.cellAt_succ_ne e cellHi rfl
    rw [State.writeWord, second, cellAt, if_neg other, State.readByte_writeByte_of_isRam inv.arraysWf ramLo cellLo,
      if_pos cellLo]
  have hi : (s.writeWord a v).readByte (a + 1) = hiByte v := by
    rw [State.writeWord, second, cellAt, if_pos cellHi]
  refine ⟨lo, hi, ?_⟩
  have cell : (s.writeWord a v).cellAt a = some x := by
    rw [State.writeWord, State.writeByte_of_isRam ramHi' ((cellAt _).trans cellHi), State.cellAt_setCell, cellAt,
      cellLo]
  rw [State.readWord, State.afterRead_of_cell cell, lo, hi, joinBytes_hi_lo]

/-! ## What a byte write leaves -/

/-- A byte write outside RAM changes no cell. -/
theorem State.cell_writeByte_of_not_isRam {s : State} {a : Word} (h : s.isRam a = false) (v : Byte) (x : Store × Nat) :
    (s.writeByte a v).cell x = s.cell x := by
  cases row : region a with
  | romLow o => rw [State.writeByte_rom (range_of_rom (.inl row)), State.cell_romWrite]
  | romHigh o => rw [State.writeByte_rom (range_of_rom (.inr row)), State.cell_romWrite]
  | vram o | wramLow o | wramHigh o | oam o | hram o => simp [State.isRam, row] at h
  | eram o =>
    by_cases absent : s.par.nEram = 0
    · simp [State.writeByte, row, absent]
    · have disabled : ramEnabled s.mbc = false := by simpa [State.isRam, row, absent] using h
      simp [State.writeByte, row, absent, disabled]
  | periph p | vramSelect | wramSelect =>
    simp only [State.writeByte, row]
    split <;> rfl
  | ifReg | ieReg | bootUnmap | unmapped => simp only [State.writeByte, row]; rfl

/-- A byte write changes no cell but, in RAM, the one its address names (R78). -/
theorem State.cell_writeByte {s : State} {a : Word} {x : Store × Nat} (h : s.isRam a = true → s.cellAt a ≠ some x)
    (v : Byte) : (s.writeByte a v).cell x = s.cell x := by
  cases ram : s.isRam a with
  | false => exact State.cell_writeByte_of_not_isRam ram v x
  | true =>
    obtain ⟨y, cell, -⟩ := State.cell_of_isRam ram
    rw [State.writeByte_of_isRam ram cell]
    exact State.cell_setCell_ne s v fun e => h ram (e ▸ cell)

/-- Each row of the map looks at its own select and no other (R83 to R92). -/
theorem State.cellAt_congr_row {s t : State} {y : Word} (hp : t.par = s.par)
    (hb : (∃ o, region y = .romLow o) → t.bootActive = s.bootActive)
    (h1 : (∃ o, region y = .romHigh o) → t.rom1Sel = s.rom1Sel)
    (hv : (∃ o, region y = .vram o) → t.vramSel = s.vramSel)
    (he : (∃ o, region y = .eram o) → t.eramSel = s.eramSel)
    (hw : (∃ o, region y = .wramHigh o) → t.wramSel = s.wramSel) : t.cellAt y = s.cellAt y := by
  unfold State.cellAt
  cases row : region y <;> simp_all [State.rom0Sel, State.wramLoSel]

/-- A ROM-range write reaches the switched banks (R79, R100). -/
theorem State.reaches_rom {s : State} {a b : Word} (h : a.toNat < 0x8000) :
    s.reaches a b ↔ (∃ o, region b = .romHigh o) ∨ (∃ o, region b = .eram o) := by
  unfold State.reaches
  by_cases low : a.toNat < 0x4000
  · rw [region_romLow low]
  · rw [region_romHigh (by omega) h]

/-- A byte write moves the cell of no address that it does not reach (R79). -/
theorem State.cellAt_writeByte {s : State} {a b : Word} (h : ¬ s.reaches a b) (v : Byte) :
    (s.writeByte a v).cellAt b = s.cellAt b := by
  have controller : (∃ o, region b = .romHigh o) ∨ (∃ o, region b = .eram o) →
      (s.writeByte a v).controller = s.controller := fun switched =>
    State.writeByte_controller s a v (not_lt.1 fun low => h ((State.reaches_rom low).2 switched))
  simp only [State.controller, Prod.mk.injEq] at controller
  refine State.cellAt_congr_row (State.writeByte_par s a v) (fun low => ?boot) (fun high => ?rom)
    (fun video => ?vram) (fun ext => ?eram) (fun work => ?wram)
  case boot =>
    have : a ≠ 0xFF50#16 := by rintro rfl; exact h low
    simp [State.writeByte_bootActive, this]
  case rom =>
    obtain ⟨-, rom, -⟩ := controller (.inl high)
    exact rom
  case eram =>
    obtain ⟨-, -, eram⟩ := controller (.inr ext)
    exact eram
  case vram => exact State.writeByte_vramSel s a v (by rintro rfl; exact h video)
  case wram => exact State.writeByte_wramSel s a v (by rintro rfl; exact h work)

/-- Two RAM addresses of one cell reach each other (R79, R91). -/
theorem State.reaches_of_isRam {s : State} {a b : Word} {x : Store × Nat} (ram : s.isRam a = true)
    (ha : s.cellAt a = some x) (hb : s.cellAt b = some x) : s.reaches a b := by
  unfold State.isRam at ram
  unfold State.reaches
  split at ram <;> simp_all

/-- A byte write leaves what every address reads that it does not reach (R79, R125). -/
theorem State.readByte_writeByte {s : State} {a b : Word} (h : ¬ s.reaches a b) (v : Byte) :
    (s.writeByte a v).readByte b = s.readByte b := by
  have cellAt := State.cellAt_writeByte h v
  cases named : s.cellAt b with
  | some x =>
    rw [State.readByte_of_cell (cellAt.trans named), State.readByte_of_cell named]
    exact State.cell_writeByte (fun ram cell => h (State.reaches_of_isRam ram cell named)) v
  | none =>
    have notIf : region b = .ifReg → (s.writeByte a v).ifReg = s.ifReg := fun row =>
      State.writeByte_ifReg s a v (by rintro rfl; exact h (region_eq_ifReg row))
    have notIe : region b = .ieReg → (s.writeByte a v).ieReg = s.ieReg := fun row =>
      State.writeByte_ieReg s a v (by rintro rfl; exact h (region_eq_ieReg row))
    simp only [State.readByte, cellAt, named, State.nextAnswer, State.writeByte_par, State.writeByte_periphIn,
      State.writeByte_periphCount]
    cases row : region b with
    | ifReg => exact notIf row
    | ieReg => exact notIe row
    | _ => rfl

/-- Settles O51: the frame of a byte write, and the read's own frame. -/
theorem accessFrame : Obligations.AccessFrame := fun s a _ v answered =>
  ⟨fun h => State.readByte_writeByte h v, State.readByte_afterRead a _ answered, State.afterRead_eq s a⟩

/-! ## What an instruction leaves -/

/-- A word store changes no cell but the two its addresses name before it: the first store does not move the RAM cell
of the second (R78). -/
theorem State.cell_writeWord {s : State} {a : Word} {x : Store × Nat} (lo : s.cellAt a ≠ some x)
    (hi : s.cellAt (a + 1) ≠ some x) (v w : Byte) : ((s.writeByte a v).writeByte (a + 1) w).cell x = s.cell x := by
  have second : (s.writeByte a v).isRam (a + 1) = true → (s.writeByte a v).cellAt (a + 1) ≠ some x := by
    intro ram cell
    obtain ⟨y, hy, writable⟩ := State.cell_of_isRam ram
    obtain rfl : y = x := Option.some.inj (hy.symm.trans cell)
    exact hi (State.cellAt_writeByte_succ cell writable)
  rw [State.cell_writeByte second, State.cell_writeByte fun _ => lo]

/-- Settles O24: an instruction stores nothing, a byte or two neighbouring bytes, and each store has its cell frame. -/
theorem cellFrame : Obligations.CellFrame := by
  intro i s t h x unnamed
  rcases exec_stores_cases h with ⟨-, m⟩ | ⟨a, v, stored, m⟩ | ⟨a, v, w, stored, m⟩
  · exact m.cell x
  · have lo := unnamed a (by simp [stored])
    rw [m.cell, State.cell_writeByte fun _ => lo]
  · rw [m.cell, State.cell_writeWord (unnamed a (by simp [stored])) (unnamed (a + 1) (by simp [stored]))]

/-- Outside the ROM range every named cell is one of a writable array (R46, R82). -/
theorem State.writable_of_cellAt {s : State} {a : Word} {x : Store × Nat}
    (row : ∀ o, region a ≠ .romLow o ∧ region a ≠ .romHigh o) (h : s.cellAt a = some x) :
    x.1 ≠ .rom ∧ x.1 ≠ .boot := by
  cases r : region a with
  | romLow o => exact absurd r (row o).1
  | romHigh o => exact absurd r (row o).2
  | eram o =>
    simp only [State.cellAt, r] at h
    split at h <;> cases h
    simp
  | _ =>
    simp only [State.cellAt, r] at h
    cases h <;> simp

/-- The first store of a word lets the second one reach nothing new: only a RAM row looks at the state, and there the
first store moves neither cell. -/
theorem State.reaches_succ {s : State} {a b : Word} {v : Byte} (h : ¬ s.reaches a b)
    (reached : (s.writeByte a v).reaches (a + 1) b) : s.reaches (a + 1) b := by
  have cellAt := State.cellAt_writeByte h v
  unfold State.reaches at reached ⊢
  cases row : region (a + 1) with
  | vram _ | eram _ | wramLow _ | wramHigh _ | oam _ | hram _ =>
    simp only [row] at reached ⊢
    obtain ⟨x, ha, hb⟩ := reached
    have writable := State.writable_of_cellAt (fun o => by rw [row]; simp) ha
    exact ⟨x, State.cellAt_writeByte_succ ha writable, cellAt ▸ hb⟩
  | _ => rw [row] at reached; exact reached

/-- Settles O25: each store leaves the bytes it does not reach, and the reads of an instruction leave all but the
answers. -/
theorem readFrame : Obligations.ReadFrame := by
  intro i s t h b answered unreached
  rcases exec_stores_cases h with ⟨-, m⟩ | ⟨a, v, stored, m⟩ | ⟨a, v, w, stored, m⟩
  · exact m.readByte answered
  · have lo := unreached a (by simp [stored])
    rw [m.readByte ((State.forwards_congr (by simp) b).trans answered), State.readByte_writeByte lo]
  · have lo := unreached a (by simp [stored])
    have hi := unreached (a + 1) (by simp [stored])
    rw [m.readByte ((State.forwards_congr (by simp) b).trans answered),
      State.readByte_writeByte fun reached => hi (State.reaches_succ lo reached), State.readByte_writeByte lo]

end Sys2Proof.Machine
end

section
/-!
PROOFS of the encoding claims (spec 30_encoding.md): decoding and encoding undo each other, the first byte alone gives
the length, and the prefix with its byte is the extended instruction. That decoding undoes encoding is `decode_encode`;
the other direction goes by the length of the opcode, `encode_decodeOp_one` to `encode_decodeOp_three`.
-/

namespace Sys2Proof.Machine

/-! ## The opcodes by length -/

/-- The opcodes of two bytes: the prefix, then STOP and those with an r8, d8 or a8 immediate (R157). -/
theorem opcode_of_length_two {op : Byte} (h : instrLength op = 2) :
    op ∈ [0xCB#8, 0x06#8, 0x0E#8, 0x10#8, 0x16#8, 0x18#8, 0x1E#8, 0x20#8, 0x26#8, 0x28#8, 0x2E#8, 0x30#8, 0x36#8,
      0x38#8, 0x3E#8, 0xC6#8, 0xCE#8, 0xD6#8, 0xDE#8, 0xE0#8, 0xE6#8, 0xE8#8, 0xEE#8, 0xF0#8, 0xF6#8, 0xF8#8,
      0xFE#8] := by
  revert op
  decide

/-- The opcodes of three bytes: d16 and a16 immediates (R157). -/
theorem opcode_of_length_three {op : Byte} (h : instrLength op = 3) :
    op ∈ [0x01#8, 0x08#8, 0x11#8, 0x21#8, 0x31#8, 0xC2#8, 0xC3#8, 0xC4#8, 0xCA#8, 0xCC#8, 0xCD#8, 0xD2#8, 0xD4#8,
      0xDA#8, 0xDC#8, 0xEA#8, 0xFA#8] := by
  revert op
  decide

/-! ## Encoding what is decoded -/

/-- The extended instructions are not the prefix row's own term (R141, R152). -/
theorem wellFormed_decodeExtended (e : Byte) : (decodeExtended e).wellFormed = true := by
  revert e
  decide

/-- Without an immediate the instruction is its opcode, a finite fact over the 256 bytes. -/
theorem encode_decodeOp_one {op : Byte} (h : instrLength op = 1) :
    (decodeOp op 0 0).wellFormed = true ∧ encode (decodeOp op 0 0) = [op] := by
  revert op
  decide

/-- A byte immediate is carried into the term and back as it stands; after the prefix it is the extended opcode. -/
theorem encode_decodeOp_two {op : Byte} (h : instrLength op = 2) (lo : Byte) :
    (decodeOp op lo 0).wellFormed = true ∧ encode (decodeOp op lo 0) = [op, lo] := by
  have listed := opcode_of_length_two h
  fin_cases listed
  · exact ⟨wellFormed_decodeExtended lo, encode_decodeExtended lo⟩
  all_goals exact ⟨rfl, rfl⟩

/-- A word immediate is the two bytes after the opcode, the low one first (R72). -/
theorem encode_decodeOp_three {op : Byte} (h : instrLength op = 3) (lo hi : Byte) :
    (decodeOp op lo hi).wellFormed = true ∧ encode (decodeOp op lo hi) = [op, lo, hi] := by
  suffices joined : (decodeOp op lo hi).wellFormed = true ∧
      encode (decodeOp op lo hi) = [op, loByte (joinBytes hi lo), hiByte (joinBytes hi lo)] by
    rwa [loByte_joinBytes, hiByte_joinBytes] at joined
  have listed := opcode_of_length_three h
  fin_cases listed <;> exact ⟨rfl, rfl⟩

/-- Encoding undoes decoding (R140, R152). -/
theorem encode_of_decode {bytes rest : List Byte} {i : Instr} (h : decode bytes = .instr i rest) :
    i.wellFormed = true ∧ bytes = encode i ++ rest := by
  cases bytes with
  | nil => cases h
  | cons op bs =>
    rcases instrLength_cases op with len | len | len <;> simp only [decode, len] at h
    · cases h
      obtain ⟨wf, enc⟩ := encode_decodeOp_one len
      exact ⟨wf, by rw [enc]; rfl⟩
    · rcases bs with _ | ⟨lo, bs⟩ <;> cases h
      obtain ⟨wf, enc⟩ := encode_decodeOp_two len lo
      exact ⟨wf, by rw [enc]; rfl⟩
    · rcases bs with _ | ⟨lo, _ | ⟨hi, bs⟩⟩ <;> cases h
      obtain ⟨wf, enc⟩ := encode_decodeOp_three len lo hi
      exact ⟨wf, by rw [enc]; rfl⟩

/-- A decoded instruction is as long as its first byte says (R142, R157). -/
theorem length_encode_of_decode {op : Byte} {bs rest : List Byte} {i : Instr} (h : decode (op :: bs) = .instr i rest) :
    (encode i).length = instrLength op := by
  obtain ⟨-, split⟩ := encode_of_decode h
  have taken := length_of_decode h
  have total := congrArg List.length split
  simp only [List.length_cons, List.length_append] at total
  omega

/-- With two bytes after it every first byte is accepted, and the bytes past its length are left (R140, R157). -/
theorem decode_of_three_bytes (op lo hi : Byte) (rest : List Byte) :
    ∃ i, decode (op :: lo :: hi :: rest) = .instr i ((lo :: hi :: rest).drop (instrLength op - 1)) := by
  rcases instrLength_cases op with len | len | len <;> simp only [decode, len] <;> exact ⟨_, rfl⟩

/-! ## The claims -/

/-- Settles O2: decoding undoes encoding. -/
theorem encodeThenDecode : Obligations.EncodeThenDecode := fun _ rest wf => decode_encode wf rest

/-- Settles O3: encoding undoes decoding. -/
theorem decodeThenEncode : Obligations.DecodeThenEncode := fun _ _ _ => encode_of_decode

/-- Settles O4: three bytes always suffice, and the length is the one of the encoding decoded. -/
theorem everyOpcodeDecodes : Obligations.EveryOpcodeDecodes := by
  intro op lo hi rest
  obtain ⟨i, decoded⟩ := decode_of_three_bytes op lo hi rest
  exact ⟨by rcases instrLength_cases op with len | len | len <;> simp [len], i, decoded,
    length_encode_of_decode decoded⟩

/-- Settles O5: the prefix's opcode fields lead the decoder to the extended instruction, and the prefix row's meaning is
that instruction's, which completes. -/
theorem prefixRunsTheExtended : Obligations.PrefixRunsTheExtended := by
  intro e s
  obtain ⟨t, run⟩ := exec_completes (decodeExtended e) s
  exact ⟨rfl, t, (exec_prefixCB e s).trans run, run⟩

end Sys2Proof.Machine
end

section
/-!
PROOFS of the 8-bit load claims (spec 40_load8.md) and of the sample words. The meanings are five shared operations,
`ldReg`, `store`, `loadA` and the two that step HL; what each leaves is said once and every row cites it.
-/

namespace Sys2Proof.Machine

/-! ## The shared operations and the encoding -/

/-- A load of A keeps HL: the read changes the port fields only (R205 to R213). -/
theorem loadA_result (a : Word) (n : Nat) (s : State) :
    ∃ t, loadA a n s = .next t ∧ t.a = s.readByte a ∧ t.hl = s.hl ∧ t.cycles = n :=
  ⟨_, rfl, rfl, State.hl_afterRead s a, rfl⟩

/-- A stepping load reads at the old HL (R216, R218). -/
theorem loadAStep_result (k : Word) (s : State) :
    ∃ t, loadAStep k s = .next t ∧ t.a = s.readByte s.hl ∧ t.hl = s.hl + k ∧ t.cycles = 8 :=
  ⟨_, rfl, rfl, State.hl_setHL (s.afterRead s.hl) _, rfl⟩

/-- Writing back the HL that stands changes nothing (R32). -/
@[simp] theorem State.setHL_hl (s : State) : s.setHL s.hl = s := by
  simp [State.setHL, State.hl]

/-- A store keeps HL, so it is a store that writes the old HL back (R203 to R214). -/
theorem store_eq_setHL (a : Word) (v : Byte) (n : Nat) (s : State) :
    store a v n s = .next (((s.writeByte a v).setHL s.hl).report n) := by
  rw [← State.hl_writeByte s a v, State.setHL_hl, store]

/-- The encoding of a well-formed instruction, with nothing after it, decodes to that instruction (R140, R152). -/
theorem decode_of_eq_encode {bytes : List Byte} {i : Instr} (enc : bytes = encode i) (wf : i.wellFormed = true) :
    decode bytes = .instr i [] := by
  simpa only [enc, List.append_nil] using decode_encode wf []

/-! ## The claims -/

/-- Settles O28: five rows are `loadA` at their address, the last two are `loadAStep` by 1 and by -1. -/
theorem loadAccumulatorResult : Obligations.LoadAccumulatorResult := by
  intro s nn o i a hl n row
  simp only [List.mem_cons, List.not_mem_nil, or_false, Prod.mk.injEq, ← highPage_eq,
    BitVec.sub_eq_add_neg] at row
  rcases row with ⟨rfl, rfl, rfl, rfl⟩ | ⟨rfl, rfl, rfl, rfl⟩ | ⟨rfl, rfl, rfl, rfl⟩ | ⟨rfl, rfl, rfl, rfl⟩ |
    ⟨rfl, rfl, rfl, rfl⟩ | ⟨rfl, rfl, rfl, rfl⟩ | ⟨rfl, rfl, rfl, rfl⟩
  · exact loadA_result s.bc 8 s
  · exact loadA_result s.de 8 s
  · exact loadA_result a 16 s
  · exact loadA_result (highPage o) 12 s
  · exact loadA_result (highPage s.c) 8 s
  · exact loadAStep_result 1 s
  · exact loadAStep_result (-1) s

/-- Settles O29: the register stores and six other rows are `store`, which keeps HL; the last two step it. -/
theorem storeByteResult : Obligations.StoreByteResult := by
  refine ⟨fun r s => exec_ldAtHLForm r s, ?_⟩
  intro s nn o v i a w hl n row
  simp only [List.mem_cons, List.not_mem_nil, or_false, Prod.mk.injEq, ← highPage_eq,
    BitVec.sub_eq_add_neg] at row
  rcases row with ⟨rfl, rfl, rfl, rfl, rfl⟩ | ⟨rfl, rfl, rfl, rfl, rfl⟩ | ⟨rfl, rfl, rfl, rfl, rfl⟩ |
    ⟨rfl, rfl, rfl, rfl, rfl⟩ | ⟨rfl, rfl, rfl, rfl, rfl⟩ | ⟨rfl, rfl, rfl, rfl, rfl⟩ |
    ⟨rfl, rfl, rfl, rfl, rfl⟩ | ⟨rfl, rfl, rfl, rfl, rfl⟩
  · exact store_eq_setHL s.hl w 12 s
  · exact store_eq_setHL s.bc s.a 8 s
  · exact store_eq_setHL s.de s.a 8 s
  · exact store_eq_setHL a s.a 16 s
  · exact store_eq_setHL (highPage o) s.a 12 s
  · exact store_eq_setHL (highPage s.c) s.a 8 s
  · exact exec_ldAtHLInc_A s
  · exact exec_ldAtHLDec_A s

/-- Settles O1: each word is the encoding of its instruction, which decoding undoes. -/
theorem sampleWordsDecode : Obligations.SampleWordsDecode := by
  unfold Obligations.SampleWordsDecode
  and_intros <;> exact decode_of_eq_encode rfl rfl

/-- Settles O27: every form is `ldReg`, whose value and count go by the operand's three kinds. -/
theorem loadRegisterResult : Obligations.LoadRegisterResult := by
  intro dst x s
  refine ⟨_, exec_ldForm dst x s, ?_, ?_⟩
  · rw [State.reg_report, State.reg_setReg, if_pos rfl]
    cases x <;> rfl
  · cases x <;> rfl

end Sys2Proof.Machine
end

section
/-!
PROOFS of the 16-bit load claims (spec 41_load16.md) and of the stack round trips (46_control.md R350, R356 to R361).
The meanings are `ldPair`, `storeWord`, `ldHLSp`, `pushPair` and `popPair`; a word pushed in RAM is the word the next
pop returns, and PUSH, CALL and RST each push one.
-/

namespace Sys2Proof.Machine

/-! ## The halves a pop returns, and the pair it writes -/

/-- The high half of a popped word is the byte read second, at the upper address (R75, R350). -/
@[simp] theorem hiByte_popValue (s : State) : hiByte s.popValue = (s.afterRead s.sp).readByte (s.sp + 1) :=
  hiByte_joinBytes _ _

/-- The low half of a popped word is the byte read first, at SP (R75, R350). -/
@[simp] theorem loByte_popValue (s : State) : loByte s.popValue = s.readByte s.sp :=
  loByte_joinBytes _ _

/-- The pairs of PUSH and POP are read from the registers and F (R144). -/
theorem State.stk_congr {s t : State} (regs : ∀ r, t.reg r = s.reg r) (f : t.f = s.f) (q : Stk16) :
    t.stk q = s.stk q := by
  cases q with
  | bc => exact congrArg₂ joinBytes (regs .b) (regs .c)
  | de => exact congrArg₂ joinBytes (regs .d) (regs .e)
  | hl => exact congrArg₂ joinBytes (regs .h) (regs .l)
  | af => exact congrArg₂ joinBytes (regs .a) f

/-- A byte whose low nibble is zero passes the mask of F unchanged (R35). -/
theorem and_highNibble_of_low_zero {f : Byte} (low : f &&& 0x0F#8 = 0#8) : f &&& 0xF0#8 = f :=
  calc f &&& 0xF0#8 = (f &&& 0xF0#8) ||| (f &&& 0x0F#8) := by rw [low, BitVec.or_zero]
    _ = f &&& BitVec.allOnes 8 := BitVec.and_or_distrib_left.symm
    _ = f := BitVec.and_allOnes

/-- Writing back the pair that stands changes nothing; for AF because F's low nibble is zero (R31, R35). -/
theorem State.setStk_stk {s : State} (low : s.f &&& 0x0F#8 = 0#8) (q : Stk16) : s.setStk q (s.stk q) = s := by
  cases q with
  | bc => simp [State.setStk, State.stk, State.bc]
  | de => simp [State.setStk, State.stk, State.de]
  | hl => exact State.setHL_hl s
  | af => simp [State.setStk, State.stk, State.setF, and_highNibble_of_low_zero low]

/-! ## A pushed word pops back -/

/-- No address of RAM is a peripheral's (R82, R94). -/
theorem State.forwards_of_isRam {s : State} {a : Word} (ram : s.isRam a = true) : s.forwards a = false := by
  unfold State.isRam at ram
  unfold State.forwards
  split at ram <;> simp_all

theorem SameMemory.report (s : State) (n : Nat) : SameMemory (s.report n) s := by constructor <;> rfl

theorem SameMemory.setPc (s : State) (a : Word) : SameMemory { s with pc := a } s := by constructor <;> rfl

/-- With the stack in RAM, a state with the memory and SP of a push pops the word pushed (R350): the two bytes read back
where they were stored, and the first read, in RAM, is not seen by the second. -/
theorem State.popValue_of_push {s t : State} {v : Word} (inv : Inv s) (ramLo : s.isRam (s.sp - 2) = true)
    (ramHi : s.isRam (s.sp - 1) = true) (mem : SameMemory t (s.push v)) (sp : t.sp = s.sp - 2) : t.popValue = v := by
  have ramNext : s.isRam (s.sp - 2 + 1) = true := by rwa [show s.sp - 2 + 1 = s.sp - 1 by bv_omega]
  have inv' : Inv { s with sp := s.sp - 2 } := inv.of_sameMemory (by constructor <;> rfl) inv.flagsLow
  obtain ⟨lo, hi, -⟩ := wordOrder { s with sp := s.sp - 2 } (s.sp - 2) v inv' ramLo ramNext
  have quiet : ∀ {a}, s.isRam a = true → (s.push v).forwards a = false := fun ram =>
    (State.forwards_congr (State.push_par s v) _).trans (State.forwards_of_isRam ram)
  have quietNext : t.forwards (s.sp - 2 + 1) = false := (State.forwards_congr mem.par _).trans (quiet ramNext)
  calc t.popValue = joinBytes (t.readByte (s.sp - 2 + 1)) (t.readByte (s.sp - 2)) := by
        rw [State.popValue, State.readWord, sp, State.readByte_afterRead _ _ quietNext]
    _ = joinBytes (hiByte v) (loByte v) := by
        rw [mem.readByte (quiet ramNext), mem.readByte (quiet ramLo)]
        exact congrArg₂ joinBytes hi lo
    _ = v := joinBytes_hi_lo v

/-- POP of the pair just pushed leaves the pop's state as it is: it writes back the pair that stands (R234, R235). -/
theorem popPair_of_push {s : State} (inv : Inv s) (ramLo : s.isRam (s.sp - 2) = true)
    (ramHi : s.isRam (s.sp - 1) = true) (q : Stk16) :
    popPair q ((s.push (s.stk q)).report 16) = .next (((s.push (s.stk q)).report 16).afterPop.report 12) := by
  generalize hp : (s.push (s.stk q)).report 16 = p
  have popped : p.popValue = s.stk q := by
    subst hp
    exact State.popValue_of_push inv ramLo ramHi (SameMemory.report _ 16) (State.push_sp s _)
  have f : p.afterPop.f = s.f := by simp [← hp]
  have stands : p.afterPop.stk q = s.stk q := State.stk_congr (by simp [← hp]) f q
  rw [popPair, popped, ← stands, State.setStk_stk (f ▸ inv.flagsLow)]

/-- A taken or unconditional call and a restart are each one `call`, to their own target (R356, R357, R361). -/
theorem exec_eq_call {i : Instr} {nn : Word} {cc : Cond} {y : Index8} {s : State}
    (h : i = .call_a16 nn ∨ (i = Instr.callForm cc nn ∧ s.cond cc = true) ∨ i = Instr.rstForm y) :
    ∃ a n, exec i s = .next ((s.call a).report n) := by
  rcases h with rfl | ⟨rfl, taken⟩ | rfl
  · exact ⟨nn, 24, rfl⟩
  · exact ⟨nn, 24, by rw [exec_callForm, callIf, if_pos taken]⟩
  · exact ⟨restartTarget y, 16, exec_rstForm y s⟩

/-! ## The claims -/

/-- Settles O31: PUSH is `push` with its two writes spelled out; POP writes the popped word's halves, F's through its
mask. -/
theorem pushAndPopResult : Obligations.PushAndPopResult := by
  refine ⟨fun q s => exec_pushForm q s, ?_⟩
  intro q s lo hi rlo rhi
  subst rlo rhi
  refine ⟨_, exec_popForm q s, by simp, rfl, ?_⟩
  cases q with
  | bc | de | hl => exact ⟨hiByte_popValue s, loByte_popValue s⟩
  | af => exact ⟨hiByte_popValue s, congrArg (· &&& 0xF0#8) (loByte_popValue s)⟩

/-- Settles O58: POP gets the pair PUSH stored and writes it back over itself; RET gets the PC a call or restart
pushed. -/
theorem stackRoundTrips : Obligations.StackRoundTrips := by
  intro s inv ramLo ramHi
  constructor
  · intro q
    have pop := popPair_of_push inv ramLo ramHi q
    exact ⟨_, _, exec_pushForm q s, (exec_popForm q _).trans pop, State.stk_congr (by simp) (by simp) q, by simp,
      by simp, by simp⟩
  · intro i nn cc y h
    obtain ⟨a, n, run⟩ := exec_eq_call h
    have popped : ((s.call a).report n).popValue = s.pc :=
      State.popValue_of_push inv ramLo ramHi (.trans (.report _ n) (.setPc _ a)) (State.call_sp s a)
    exact ⟨_, _, run, exec_ret _, popped, by simp⟩

/-- Settles O30: the pair reads back the word written; HL and the flags are those of `spOffset`; the other two are their
meanings. -/
theorem loadWordResult : Obligations.LoadWordResult := by
  refine ⟨fun p nn s => ⟨_, exec_ldPairForm p nn s, ?_, rfl⟩, exec_ldAtA16_SP, exec_ldSP_HL,
    fun v s => ⟨_, exec_ldHL_SPr8 v s, ?_, ?_, ?_, ?_, ?_, rfl⟩⟩
  · rw [State.pair_report, State.pair_setPair]
  · rw [State.hl_report, State.hl_setFlags, State.hl_setHL]
    rfl
  · rw [State.flagZ_report, State.flagZ_setFlags]
  · rw [State.flagN_report, State.flagN_setFlags]
  · rw [State.flagH_report, State.flagH_setFlags]
    rfl
  · rw [State.flagC_report, State.flagC_setFlags]
    rfl

end Sys2Proof.Machine
end

section
/-!
PROOFS of the 8-bit arithmetic and logic claims (spec 42_alu8.md). Each computation on plain values has one equation
that gives its result and four flags in numbers (`add8_eq`, `sub8_eq`, `inc8_eq`, `dec8_eq`, `daa8_eq`); the meanings
store such a record, and the claims read it back. DAA's two corrections are the carries out of the two decimal digits.
-/

namespace Sys2Proof.Machine

/-! ## A computation's flags, read back -/

@[simp] theorem State.flagZ_withFlagsOf (s : State) (r : Flagged) : (s.withFlagsOf r).flagZ = r.z :=
  State.flagZ_setFlags s r.z r.n r.h r.c

@[simp] theorem State.flagN_withFlagsOf (s : State) (r : Flagged) : (s.withFlagsOf r).flagN = r.n :=
  State.flagN_setFlags s r.z r.n r.h r.c

@[simp] theorem State.flagH_withFlagsOf (s : State) (r : Flagged) : (s.withFlagsOf r).flagH = r.h :=
  State.flagH_setFlags s r.z r.n r.h r.c

@[simp] theorem State.flagC_withFlagsOf (s : State) (r : Flagged) : (s.withFlagsOf r).flagC = r.c :=
  State.flagC_setFlags s r.z r.n r.h r.c

/-- An accumulator operation leaves its computation's result in A, but for CP, and its flags in F (R254 to R277). -/
theorem exec_aluForm_result (op : AluOp) (x : Src8) (s : State) {r : Flagged}
    (hr : aluResult op s.a (s.srcValue x) s.flagC = r) :
    ∃ t, exec (Instr.aluForm op x) s = .next t ∧ t.a = (if op = .cp then s.a else r.res) ∧
      t.flagZ = r.z ∧ t.flagN = r.n ∧ t.flagH = r.h ∧ t.flagC = r.c := by
  subst hr
  refine ⟨_, exec_aluForm op x s, ?_, by simp, by simp, by simp, by simp⟩
  by_cases cp : op = .cp <;> simp [cp]

/-- DAA leaves its computation's result in A and its flags in F (R282). -/
theorem exec_daa_result (s : State) {r : Flagged} (hr : daa8 s.a s.flagN s.flagH s.flagC = r) :
    ∃ t, exec .daa s = .next t ∧ t = { s with a := r.res, f := t.f, cycles := 4 } ∧
      t.flagZ = r.z ∧ t.flagN = r.n ∧ t.flagH = r.h ∧ t.flagC = r.c := by
  subst hr
  exact ⟨_, exec_daa s, rfl, by simp, by simp, by simp, by simp⟩

/-! ## The computations in numbers -/

/-- The Zero flag of a narrowed sum is that of the sum modulo 256. -/
theorem decide_ofNat_eq_zero (n : Nat) : decide (BitVec.ofNat 8 n = 0) = decide (n % 256 = 0) :=
  decide_eq_decide.2 (BitVec.toNat_eq.trans (by simp))

/-- A difference narrowed from the integers is the one computed on naturals two wraps up. -/
theorem ofInt_sub_sub {a v ci : Nat} (hv : v < 256) (hci : ci ≤ 1) :
    BitVec.ofInt 8 ((a : Int) - v - ci) = BitVec.ofNat 8 (a + 512 - v - ci) := by
  apply BitVec.eq_of_toNat_eq
  rw [BitVec.toNat_ofInt, BitVec.toNat_ofNat]
  omega

/-- A byte read as a number and narrowed again. -/
theorem ofInt_byte (v : Byte) : BitVec.ofInt 8 v.toNat = v := by
  rw [BitVec.ofInt_natCast, BitVec.ofNat_toNat, BitVec.setWidth_eq]

/-- A difference taken from a byte on the integers, narrowed, is the byte difference. -/
theorem ofInt_byte_sub (v : Byte) (k : Int) : BitVec.ofInt 8 (v.toNat - k) = v - BitVec.ofInt 8 k := by
  rw [Int.sub_eq_add_neg, BitVec.ofInt_add, BitVec.ofInt_neg, ofInt_byte, BitVec.sub_eq_add_neg]

theorem add8_eq (a v : Byte) (ci : Bool) : add8 a v ci =
    { res := BitVec.ofNat 8 (a.toNat + v.toNat + ci.toNat)
      z := decide ((a.toNat + v.toNat + ci.toNat) % 256 = 0)
      n := false
      h := decide (a.toNat % 16 + v.toNat % 16 + ci.toNat > 15)
      c := decide (a.toNat + v.toNat + ci.toNat > 255) } := by
  rw [← decide_ofNat_eq_zero]
  rfl

theorem sub8_eq (a v : Byte) (ci : Bool) : sub8 a v ci =
    { res := BitVec.ofNat 8 (a.toNat + 512 - v.toNat - ci.toNat)
      z := decide ((a.toNat + 512 - v.toNat - ci.toNat) % 256 = 0)
      n := true
      h := decide (a.toNat % 16 < v.toNat % 16 + ci.toNat)
      c := decide (a.toNat < v.toNat + ci.toNat) } := by
  simp only [sub8, ofInt_sub_sub v.isLt ci.toNat_le, decide_ofNat_eq_zero, Flagged.mk.injEq, true_and,
    decide_eq_decide]
  omega

theorem inc8_eq (v : Byte) (ci : Bool) : inc8 v ci =
    { res := v + 1, z := decide (v.toNat = 255), n := false, h := decide (v.toNat % 16 = 15), c := ci } := by
  have res : BitVec.ofNat 8 (v.toNat + 1) = v + 1 := by simp [BitVec.ofNat_add]
  have z : v + 1 = 0 ↔ v.toNat = 255 := by bv_omega
  have h : v.toNat % 16 + 1 > 0xF ↔ v.toNat % 16 = 15 := by omega
  simp only [inc8, res, z, h]

theorem dec8_eq (v : Byte) (ci : Bool) : dec8 v ci =
    { res := v - 1, z := decide (v.toNat = 1), n := true, h := decide (v.toNat % 16 = 0), c := ci } := by
  have res : BitVec.ofInt 8 ((v.toNat : Int) - 1) = v - 1 := ofInt_byte_sub v 1
  have z : v - 1 = 0 ↔ v.toNat = 1 := by bv_omega
  have h : ((v.toNat % 16 : Nat) : Int) - 1 < 0 ↔ v.toNat % 16 = 0 := by omega
  simp only [dec8, res, z, h]

/-- The correction of DAA: 0x60 for the high digit, 0x06 for the low one (R282). -/
def decimalStep (hi lo : Bool) : Byte := (if hi then 0x60#8 else 0#8) + (if lo then 0x06#8 else 0#8)

/-- DAA adds its correction, after a subtraction takes it away (R282). -/
def decimalAdjust (a : Byte) (n hi lo : Bool) : Byte :=
  if n then a - decimalStep hi lo else a + decimalStep hi lo

theorem daa8_eq {a : Byte} {n h c hi lo : Bool} (hhi : hi = if n then c else c || decide (a.toNat > 0x99))
    (hlo : lo = if n then h else h || decide (a.toNat % 16 > 9)) : daa8 a n h c =
    { res := decimalAdjust a n hi lo, z := decide (decimalAdjust a n hi lo = 0), n := n, h := false, c := hi } := by
  have wide : ((a.toNat : Int) > 0x99) = (a.toNat > 0x99) := by simp
  have step : BitVec.ofInt 8 ((if hi then 0x60 else 0) + (if lo then 0x06 else 0)) = decimalStep hi lo := by
    rw [BitVec.ofInt_add, apply_ite (BitVec.ofInt 8), apply_ite (BitVec.ofInt 8)]
    rfl
  have res : BitVec.ofInt 8 (if n then (a.toNat : Int) - ((if hi then 0x60 else 0) + (if lo then 0x06 else 0))
      else (a.toNat : Int) + ((if hi then 0x60 else 0) + (if lo then 0x06 else 0))) = decimalAdjust a n hi lo := by
    rw [apply_ite (BitVec.ofInt 8), ofInt_byte_sub, step, BitVec.ofInt_add, ofInt_byte, step]
    rfl
  simp only [daa8, wide, ← hhi, ← hlo, res]

/-! ## The carry in -/

/-- ADD is `add8` without a carry in, ADC `add8` with the carry flag (R254 to R259). -/
theorem aluResult_eq_add8 {op : AluOp} {ci : Nat} {cf : Bool}
    (h : (op = .add ∧ ci = 0) ∨ (op = .adc ∧ ci = cf.toNat)) :
    op ≠ .cp ∧ ∃ c : Bool, c.toNat = ci ∧ ∀ a v, aluResult op a v cf = add8 a v c := by
  rcases h with ⟨rfl, rfl⟩ | ⟨rfl, rfl⟩
  · exact ⟨nofun, false, rfl, fun _ _ => rfl⟩
  · exact ⟨nofun, cf, rfl, fun _ _ => rfl⟩

/-- SUB and CP are `sub8` without a borrow in, SBC `sub8` with the carry flag (R260 to R265, R275 to R277). -/
theorem aluResult_eq_sub8 {op : AluOp} {ci : Nat} {cf : Bool}
    (h : (op = .sub ∧ ci = 0) ∨ (op = .sbc ∧ ci = cf.toNat) ∨ (op = .cp ∧ ci = 0)) :
    ∃ c : Bool, c.toNat = ci ∧ ∀ a v, aluResult op a v cf = sub8 a v c := by
  rcases h with ⟨rfl, rfl⟩ | ⟨rfl, rfl⟩ | ⟨rfl, rfl⟩
  · exact ⟨false, rfl, fun _ _ => rfl⟩
  · exact ⟨cf, rfl, fun _ _ => rfl⟩
  · exact ⟨false, rfl, fun _ _ => rfl⟩

/-! ## INC and DEC -/

theorem exec_incForm_eq (x : Loc8) (s : State) : exec (Instr.incForm x) s =
    .next ((((s.afterLoc x).setLoc x (s.locValue x + 1)).setFlags (decide ((s.locValue x).toNat = 255)) false
      (decide ((s.locValue x).toNat % 16 = 15)) s.flagC).report (stepCycles x)) := by
  rw [exec_incForm, incLoc, inc8_eq]
  rfl

theorem exec_decForm_eq (x : Loc8) (s : State) : exec (Instr.decForm x) s =
    .next ((((s.afterLoc x).setLoc x (s.locValue x - 1)).setFlags (decide ((s.locValue x).toNat = 1)) true
      (decide ((s.locValue x).toNat % 16 = 0)) s.flagC).report (stepCycles x)) := by
  rw [exec_decForm, decLoc, dec8_eq]
  rfl

/-- What a register write with new flags leaves: that register, the flags and the cycle count (R278, R280). -/
theorem setReg_setFlags_report {s t : State} {r : Reg8} {v : Byte} {z n h c : Bool} {k : Nat}
    (ht : t = ((s.setReg r v).setFlags z n h c).report k) :
    t.reg r = v ∧ (∀ q, q ≠ r → t.reg q = s.reg q) ∧
      t = { s with a := t.a, b := t.b, c := t.c, d := t.d, e := t.e, h := t.h, l := t.l, f := t.f, cycles := k } ∧
      t.flagZ = z ∧ t.flagN = n ∧ t.flagH = h ∧ t.flagC = c := by
  subst ht
  refine ⟨by simp, fun q hq => by simp [hq.symm], ?_, by simp, by simp, by simp, by simp⟩
  cases r <;> rfl

/-- What a write back of the byte at HL with new flags leaves: the read, the write, the flags and the cycle count
(R279, R281). -/
theorem writeBack_setFlags_report {s t : State} {v : Byte} {z n h c : Bool} {k : Nat}
    (ht : t = (((s.afterLoc .atHL).setLoc .atHL v).setFlags z n h c).report k) :
    t = { (s.afterRead s.hl).writeByte s.hl v with f := t.f, cycles := k } ∧
      t.flagZ = z ∧ t.flagN = n ∧ t.flagH = h ∧ t.flagC = c := by
  subst ht
  refine ⟨?_, by simp, by simp, by simp, by simp⟩
  show (((s.afterRead s.hl).writeByte (s.afterRead s.hl).hl v).setFlags z n h c).report k = _
  rw [State.hl_afterRead]
  rfl

/-! ## Decimal digits -/

theorem decimalByte_toNat {k : Nat} (hk : k < 100) : (decimalByte k).toNat = 16 * (k / 10) + k % 10 := by
  rw [decimalByte, BitVec.toNat_ofNat]
  omega

theorem decimalByte_eq_zero {k : Nat} (hk : k < 100) : decimalByte k = 0 ↔ k = 0 := by
  rw [BitVec.toNat_eq, decimalByte_toNat hk]
  show 16 * (k / 10) + k % 10 = 0 ↔ k = 0
  omega

/-- DAA after an addition of decimal bytes: the low digit is corrected when the low digits carry, the high one when the
whole sum does, and a corrected digit carries out of 10 instead of out of 16 (R251, R282). -/
theorem daa8_add8 {m n : Nat} (hm : m < 100) (hn : n < 100) (c : Bool) {r : Flagged}
    (hr : add8 (decimalByte m) (decimalByte n) c = r) : daa8 r.res r.n r.h r.c =
    { res := decimalByte ((m + n + c.toNat) % 100), z := decide ((m + n + c.toNat) % 100 = 0), n := false, h := false
      c := decide (m + n + c.toNat ≥ 100) } := by
  have hc := c.toNat_le
  rw [add8_eq, decimalByte_toNat hm, decimalByte_toNat hn] at hr
  generalize c.toNat = ci at *
  subst hr
  have adjusted : decimalAdjust (BitVec.ofNat 8 (16 * (m / 10) + m % 10 + (16 * (n / 10) + n % 10) + ci)) false
      (decide (m + n + ci ≥ 100)) (decide (m % 10 + n % 10 + ci ≥ 10)) = decimalByte ((m + n + ci) % 100) := by
    apply BitVec.eq_of_toNat_eq
    rw [decimalByte_toNat (Nat.mod_lt _ (by decide))]
    by_cases high : m + n + ci ≥ 100 <;> by_cases low : m % 10 + n % 10 + ci ≥ 10 <;>
      simp [decimalAdjust, decimalStep, high, low] <;> omega
  rw [daa8_eq (hi := decide (m + n + ci ≥ 100)) (lo := decide (m % 10 + n % 10 + ci ≥ 10)), adjusted]
  · simp only [decimalByte_eq_zero (Nat.mod_lt _ (by decide : 0 < 100))]
  · have noCarry : m + n + ci < 100 → 16 * (m / 10) + m % 10 + (16 * (n / 10) + n % 10) + ci ≤ 0x99 := by omega
    simp only [Bool.false_eq_true, if_false, ← Bool.decide_or, decide_eq_decide, BitVec.toNat_ofNat]
    omega
  · simp only [Bool.false_eq_true, if_false, ← Bool.decide_or, decide_eq_decide, BitVec.toNat_ofNat]
    omega

/-- DAA after a subtraction of decimal bytes: a digit that borrowed took 16 and is given 10 (R252, R282). -/
theorem daa8_sub8 {m n : Nat} (hm : m < 100) (hn : n < 100) (c : Bool) {r : Flagged}
    (hr : sub8 (decimalByte m) (decimalByte n) c = r) : daa8 r.res r.n r.h r.c =
    { res := decimalByte ((m + 200 - n - c.toNat) % 100), z := decide ((m + 200 - n - c.toNat) % 100 = 0), n := true
      h := false, c := decide (m < n + c.toNat) } := by
  have hc := c.toNat_le
  rw [sub8_eq, decimalByte_toNat hm, decimalByte_toNat hn] at hr
  generalize c.toNat = ci at *
  subst hr
  have adjusted : decimalAdjust (BitVec.ofNat 8 (16 * (m / 10) + m % 10 + 512 - (16 * (n / 10) + n % 10) - ci)) true
      (decide (m < n + ci)) (decide (m % 10 < n % 10 + ci)) = decimalByte ((m + 200 - n - ci) % 100) := by
    apply BitVec.eq_of_toNat_eq
    rw [decimalByte_toNat (Nat.mod_lt _ (by decide))]
    by_cases high : m < n + ci <;> by_cases low : m % 10 < n % 10 + ci <;>
      simp [decimalAdjust, decimalStep, high, low] <;> bv_omega
  rw [daa8_eq (hi := decide (m < n + ci)) (lo := decide (m % 10 < n % 10 + ci)), adjusted]
  · simp only [decimalByte_eq_zero (Nat.mod_lt _ (by decide : 0 < 100))]
  · simp only [if_true, decide_eq_decide]
    omega
  · simp only [if_true, decide_eq_decide]
    omega

/-! ## The claims -/

/-- Settles O32: both are `add8` with their carry in, whose equation is in numbers. -/
theorem addResult : Obligations.AddResult := by
  intro x s op ci v hop hv
  obtain ⟨notCp, carry, rfl, eq⟩ := aluResult_eq_add8 hop
  obtain ⟨t, run, a, z, n, h, c⟩ := exec_aluForm_result op x s ((eq _ _).trans (add8_eq _ _ _))
  subst hv
  refine ⟨t, run, ?_, z, n, h, c⟩
  rw [a, if_neg notCp, BitVec.toNat_ofNat]

/-- Settles O33: the three are `sub8` with their borrow in, and CP alone keeps A. -/
theorem subtractResult : Obligations.SubtractResult := by
  intro x s op ci v hop hv
  obtain ⟨borrow, rfl, eq⟩ := aluResult_eq_sub8 hop
  obtain ⟨t, run, a, z, n, h, c⟩ := exec_aluForm_result op x s ((eq _ _).trans (sub8_eq _ _ _))
  subst hv
  refine ⟨t, run, ?_, z, n, h, c⟩
  rw [a, apply_ite BitVec.toNat, BitVec.toNat_ofNat]

/-- Settles O34: each is its own computation, with constant N, H and C. -/
theorem logicResult : Obligations.LogicResult := by
  intro x s op res hop
  rcases hop with ⟨rfl, rfl⟩ | ⟨rfl, rfl⟩ | ⟨rfl, rfl⟩
  · exact exec_aluForm_result .and x s rfl
  · exact exec_aluForm_result .or x s rfl
  · exact exec_aluForm_result .xor x s rfl

/-- Settles O35: a register form is a register write, the form at HL a read and a write back, each with new flags. -/
theorem incDecByteResult : Obligations.IncDecByteResult := by
  refine ⟨fun r s v hv => ?_, fun s v hv => ?_⟩
  · subst hv
    exact ⟨⟨_, exec_incForm_eq (.reg r) s, setReg_setFlags_report rfl⟩,
      ⟨_, exec_decForm_eq (.reg r) s, setReg_setFlags_report rfl⟩⟩
  · subst hv
    exact ⟨⟨_, exec_incForm_eq .atHL s, writeBack_setFlags_report rfl⟩,
      ⟨_, exec_decForm_eq .atHL s, writeBack_setFlags_report rfl⟩⟩

/-- Settles O36: DAA is its computation's equation; the other three set their flags outright. -/
theorem accumulatorAdjustResult : Obligations.AccumulatorAdjustResult := by
  refine ⟨fun s hi lo hhi hlo => ?daa, fun s => ?cpl, fun s => ?scf, fun s => ?ccf⟩
  case daa =>
    obtain ⟨t, run, frame, z, n, h, c⟩ := exec_daa_result s (daa8_eq hhi hlo)
    exact ⟨t, run, frame, z.trans (by rw [frame]; rfl), n, h, c⟩
  case cpl => exact ⟨_, exec_cpl s, rfl, by simp, by simp, by simp, by simp⟩
  case scf => exact ⟨_, exec_scf s, rfl, by simp, by simp, by simp, by simp⟩
  case ccf => exact ⟨_, exec_ccf s, rfl, by simp, by simp, by simp, by simp⟩

/-- DAA after an accumulator operation adjusts that operation's result, with its flags (R282). -/
theorem exec_aluForm_daa (op : AluOp) (notCp : op ≠ .cp) (x : Src8) (s : State) {r r' : Flagged}
    (hr : aluResult op s.a (s.srcValue x) s.flagC = r) (hr' : daa8 r.res r.n r.h r.c = r') :
    ∃ t u, exec (Instr.aluForm op x) s = .next t ∧ exec .daa t = .next u ∧ u.a = r'.res ∧ u.flagC = r'.c ∧
      u.flagZ = r'.z := by
  obtain ⟨t, run, a, -, n, h, c⟩ := exec_aluForm_result op x s hr
  rw [if_neg notCp] at a
  rw [← a, ← n, ← h, ← c] at hr'
  obtain ⟨u, run', frame, z', -, -, c'⟩ := exec_daa_result t hr'
  exact ⟨t, u, run, run', by rw [frame], c', z'⟩

/-- Settles O60: the operation is `add8` or `sub8` of the two decimal bytes, and DAA makes either decimal. -/
theorem decimalArithmetic : Obligations.DecimalArithmetic := by
  intro s x m n op ci hm hn ha hx
  refine ⟨fun hop => ?sum, fun hop => ?difference⟩
  case sum =>
    obtain ⟨notCp, carry, rfl, eq⟩ := aluResult_eq_add8 hop
    exact exec_aluForm_daa op notCp x s rfl (daa8_add8 hm hn carry (by rw [eq, ha, hx]))
  case difference =>
    have notCp : op ≠ .cp := by rcases hop with ⟨rfl, -⟩ | ⟨rfl, -⟩ <;> nofun
    obtain ⟨borrow, rfl, eq⟩ := aluResult_eq_sub8 (hop.imp_right .inl)
    exact exec_aluForm_daa op notCp x s rfl (daa8_sub8 hm hn borrow (by rw [eq, ha, hx]))

end Sys2Proof.Machine
end

section
/-!
PROOFS of the 16-bit arithmetic claims (spec 43_alu16.md). ADD HL and ADD SP each leave their computation's record in a
word register and its two flags in F; INC and DEC of a pair write the pair and no flag.
-/

namespace Sys2Proof.Machine

/-- The sum on naturals, narrowed, is the word sum (R301). -/
theorem add16_eq (a v : Word) : add16 a v =
    { res := a + v
      h := decide (a.toNat % 4096 + v.toNat % 4096 > 4095)
      c := decide (a.toNat + v.toNat > 65535) } := by
  rw [BitVec.add_def]
  rfl

/-- ADD HL leaves its sum in HL and its carries in H and C, and keeps Z (R301). -/
theorem exec_addHLForm_result (p : Reg16) (s : State) {r : Flagged16} (hr : add16 s.hl (s.pair p) = r) :
    ∃ t, exec (Instr.addHLForm p) s = .next t ∧ t.hl = r.res ∧ t.flagZ = s.flagZ ∧ t.flagN = false ∧
      t.flagH = r.h ∧ t.flagC = r.c ∧ t.cycles = 8 := by
  subst hr
  refine ⟨_, exec_addHLForm p s, ?_, by simp, by simp, by simp, by simp, rfl⟩
  rw [State.hl_report, State.hl_setFlags, State.hl_setHL]

/-- ADD SP leaves the signed sum in SP, the low-byte carries in H and C, and Z and N clear (R304). -/
theorem exec_addSP_r8_result (v : Byte) (s : State) {r : Flagged16} (hr : spOffset s.sp v = r) :
    ∃ t, exec (.addSP_r8 v) s = .next t ∧ t.sp = r.res ∧ t.flagZ = false ∧ t.flagN = false ∧
      t.flagH = r.h ∧ t.flagC = r.c ∧ t.cycles = 16 := by
  subst hr
  exact ⟨_, exec_addSP_r8 v s, rfl, by simp, by simp, by simp, by simp, rfl⟩

/-- What a write of a pair without flags leaves (R302, R303). -/
theorem setPair_report {s t : State} {p : Reg16} {v : Word} {k : Nat} (ht : t = (s.setPair p v).report k) :
    t.pair p = v ∧ t.f = s.f ∧ t.cycles = k := by
  subst ht
  refine ⟨?_, State.setPair_f s p v, rfl⟩
  rw [State.pair_report, State.pair_setPair]

/-- Settles O37: ADD HL is `add16`, whose equation is on words, and ADD SP is `spOffset` as it stands; INC and DEC write
the pair alone. -/
theorem wordArithmeticResult : Obligations.WordArithmeticResult :=
  ⟨fun p s => exec_addHLForm_result p s (add16_eq s.hl (s.pair p)),
    fun p s => ⟨_, exec_incPairForm p s, setPair_report rfl⟩,
    fun p s => ⟨_, exec_decPairForm p s, setPair_report rfl⟩,
    fun v s => exec_addSP_r8_result v s rfl⟩

end Sys2Proof.Machine
end

section
/-!
PROOFS of the rotate and shift claims (spec 44_rotate_shift.md). Seven of the eight kinds move the byte by one place and
let one bit in at the end that became free, SWAP moves the two nibbles; a rotate's result is read bit by bit through
these two movements.
-/

namespace Sys2Proof.Machine

/-! ## The movements, bit by bit -/

@[simp] theorem getElem_bitByte (b : Bool) {i : Nat} (hi : i < 8) : (bitByte b)[i] = (decide (i = 0) && b) := by
  cases b <;> simp [bitByte]

/-- One place up, with `b` let in at the bottom. -/
theorem getLsbD_shiftUp (v : Byte) (b : Bool) {i : Nat} (hi : i < 8) :
    ((v <<< 1) ||| bitByte b).getLsbD i = if i = 0 then b else v.getLsbD (i - 1) := by
  by_cases bottom : i = 0
  · simp [bottom]
  · have inside : i - 1 < 8 := by omega
    simp [bottom, hi, inside]

/-- One place down, with `b` let in at the top. -/
theorem getLsbD_shiftDown (v : Byte) (b : Bool) {i : Nat} (hi : i < 8) :
    ((v >>> 1) ||| (bitByte b <<< 7)).getLsbD i = if i = 7 then b else v.getLsbD (i + 1) := by
  by_cases top : i = 7
  · simp [top]
  · have below : i < 7 := by omega
    simp [top, below, Nat.add_comm]

/-- The top bit alone, as SRA keeps it (R310). -/
theorem and_topBit (v : Byte) : v &&& 0x80#8 = bitByte (v.getLsbD 7) <<< 7 := by
  apply BitVec.eq_of_getLsbD_eq
  intro i hi
  interval_cases i <;> simp

/-- The nibbles exchanged. -/
theorem getLsbD_swapNibbles (v : Byte) {i : Nat} (hi : i < 8) :
    (((v &&& 0x0F#8) <<< 4) ||| (v >>> 4)).getLsbD i = v.getLsbD ((i + 4) % 8) := by
  interval_cases i <;> simp

/-- Each kind moves the bits as R310 has them. -/
theorem getLsbD_rotate (k : RotKind) (v : Byte) (ci : Bool) {i : Nat} (hi : i < 8) :
    (rotate k v ci).1.getLsbD i = movedBit k ci v i := by
  cases k with
  | rlc =>
    refine (getLsbD_shiftUp v _ hi).trans ?_
    by_cases bottom : i = 0
    · simp [movedBit, bottom]
    · have around : (i + 7) % 8 = i - 1 := by omega
      simp [movedBit, bottom, around]
  | rrc =>
    refine (getLsbD_shiftDown v _ hi).trans ?_
    by_cases top : i = 7
    · simp [movedBit, top]
    · have inside : (i + 1) % 8 = i + 1 := by omega
      simp [movedBit, top, inside]
  | rl => exact getLsbD_shiftUp v ci hi
  | rr => exact getLsbD_shiftDown v ci hi
  | sla =>
    have zeroIn : v <<< 1 = v <<< 1 ||| bitByte false := BitVec.or_zero.symm
    exact (congrArg (·.getLsbD i) zeroIn).trans (getLsbD_shiftUp v false hi)
  | sra =>
    rw [rotate, and_topBit]
    exact getLsbD_shiftDown v (v.getLsbD 7) hi
  | swap => exact getLsbD_swapNibbles v hi
  | srl =>
    have zeroIn : v >>> 1 = v >>> 1 ||| bitByte false <<< 7 := BitVec.or_zero.symm
    exact (congrArg (·.getLsbD i) zeroIn).trans (getLsbD_shiftDown v false hi)

/-- Each kind's new carry is the bit it shifts out (R310). -/
@[simp] theorem rotate_carry (k : RotKind) (v : Byte) (ci : Bool) : (rotate k v ci).2 = shiftedOut k v := by
  cases k <;> rfl

/-! ## The claim -/

/-- An accumulator-only form leaves the moved bits in A, Z forced false, the bit shifted out in C (R311 to R314). -/
theorem exec_result_of_rotateA {i : Instr} {k : RotKind} {s : State} (run : exec i s = rotateA k s) :
    ∃ t, exec i s = .next t ∧ (∀ j, j < 8 → t.a.getLsbD j = movedBit k s.flagC s.a j) ∧
      t = { s with a := t.a, f := t.f, cycles := 4 } ∧
      t.flagZ = false ∧ t.flagN = false ∧ t.flagH = false ∧ t.flagC = shiftedOut k s.a :=
  ⟨_, run, fun _ hj => getLsbD_rotate k s.a s.flagC hj, rfl, by simp, by simp, by simp, by simp⟩

/-- Settles O38: each form writes back `rotate` of its operand, whose bits and carry are those of R310; the frame is
that of a register write, or of a read and a write at HL, with new flags. -/
theorem rotateResult : Obligations.RotateResult := by
  refine ⟨fun s i k hik => ?accumulator, fun k r s v hv => ?register, fun k s v hv => ?atHL⟩
  case accumulator =>
    simp only [List.mem_cons, Prod.mk.injEq, List.not_mem_nil, or_false] at hik
    obtain ⟨rfl, rfl⟩ | ⟨rfl, rfl⟩ | ⟨rfl, rfl⟩ | ⟨rfl, rfl⟩ := hik
    · exact exec_result_of_rotateA (exec_rlca s)
    · exact exec_result_of_rotateA (exec_rrca s)
    · exact exec_result_of_rotateA (exec_rla s)
    · exact exec_result_of_rotateA (exec_rra s)
  case register =>
    subst hv
    obtain ⟨res, others, frame, z, n, h, c⟩ := setReg_setFlags_report (s := s) (r := r) rfl
    exact ⟨_, exec_rotForm k (.reg r) s,
      fun j hj => (congrArg (·.getLsbD j) res).trans (getLsbD_rotate k (s.reg r) s.flagC hj), others, frame,
      z.trans (congrArg (fun w => decide (w = 0#8)) res.symm), n, h, c.trans (rotate_carry _ _ _)⟩
  case atHL =>
    subst hv
    obtain ⟨frame, z, n, h, c⟩ := writeBack_setFlags_report (s := s) rfl
    exact ⟨_, _, exec_rotForm k .atHL s, fun _ hj => getLsbD_rotate k (s.readByte s.hl) s.flagC hj,
      frame, z, n, h, c.trans (rotate_carry _ _ _)⟩

end Sys2Proof.Machine
end

section
/-!
PROOFS of the bit claims (spec 45_bit.md). BIT reads its operand and sets the flags; RES and SET write their operand
back with one bit cleared or set, and no flag.
-/

namespace Sys2Proof.Machine

/-! ## One bit of a byte -/

theorem indexNat_lt (k : Index8) : indexNat k < 8 := by
  cases k <;> decide

/-- The mask `1 << b` of R342 and R344 has bit b alone. -/
theorem getLsbD_bitMask (k : Index8) (j : Nat) : (1#8 <<< indexNat k).getLsbD j = decide (j = indexNat k) := by
  rw [← BitVec.twoPow_eq, BitVec.getLsbD_twoPow, decide_eq_true (indexNat_lt k), Bool.true_and]
  exact decide_eq_decide.mpr eq_comm

theorem getLsbD_clearBit (k : Index8) (v : Byte) {j : Nat} (hj : j < 8) :
    (clearBit k v).getLsbD j = (v.getLsbD j && decide (j ≠ indexNat k)) := by
  rw [clearBit, BitVec.getLsbD_and, BitVec.getLsbD_not, getLsbD_bitMask, decide_eq_true hj, Bool.true_and, decide_not]

theorem getLsbD_setBit (k : Index8) (v : Byte) (j : Nat) :
    (setBit k v).getLsbD j = (v.getLsbD j || decide (j = indexNat k)) := by
  rw [setBit, BitVec.getLsbD_or, getLsbD_bitMask]

/-! ## What the shared operations leave -/

/-- What new flags alone leave: F and the cycle count (R340, R341). -/
theorem setFlags_report {s t : State} {z n h c : Bool} {k : Nat} (ht : t = (s.setFlags z n h c).report k) :
    t = { s with f := t.f, cycles := k } ∧ t.flagZ = z ∧ t.flagN = n ∧ t.flagH = h ∧ t.flagC = c := by
  subst ht
  exact ⟨rfl, by simp, by simp, by simp, by simp⟩

/-- An instruction that writes register r back, and no flag, leaves the bits of the byte written in r, and every other
register and all but the cycle count as they were (R342, R344). -/
theorem exec_result_of_setReg {i : Instr} {s : State} {r : Reg8} {w : Byte} {bit : Nat → Bool}
    (run : exec i s = .next ((s.setReg r w).report 8)) (bits : ∀ j, j < 8 → w.getLsbD j = bit j) :
    ∃ t, exec i s = .next t ∧ (∀ j, j < 8 → (t.reg r).getLsbD j = bit j) ∧ (∀ q, q ≠ r → t.reg q = s.reg q) ∧
      t = { s with a := t.a, b := t.b, c := t.c, d := t.d, e := t.e, h := t.h, l := t.l, cycles := 8 } := by
  refine ⟨_, run, fun j hj => ?_, fun q hq => by simp [hq.symm], ?_⟩
  · rw [State.reg_report, State.reg_setReg, if_pos rfl]
    exact bits j hj
  · cases r <;> rfl

/-- An instruction that writes the byte at HL back, and no flag, writes it to the address it was read from
(R343, R345). -/
theorem exec_result_of_writeBack {i : Instr} {s : State} {w : Byte} {bit : Nat → Bool}
    (run : exec i s = .next (((s.afterLoc .atHL).setLoc .atHL w).report 16)) (bits : ∀ j, j < 8 → w.getLsbD j = bit j) :
    ∃ res : Byte, (∀ j, j < 8 → res.getLsbD j = bit j) ∧
      exec i s = .next { (s.afterRead s.hl).writeByte s.hl res with cycles := 16 } := by
  refine ⟨w, bits, run.trans ?_⟩
  show Host.Outcome.next (((s.afterRead s.hl).writeByte (s.afterRead s.hl).hl w).report 16) = _
  rw [State.hl_afterRead]
  rfl

/-! ## The claim -/

/-- Settles O39: BIT leaves new flags alone; RES and SET write `clearBit` and `setBit` of their operand back, whose bits
are those of R342 and R344. -/
theorem bitResult : Obligations.BitResult := by
  refine ⟨fun k r s v hv => ⟨?bitReg, ?resReg, ?setReg⟩, fun k s v hv => ⟨?bitAtHL, ?resAtHL, ?setAtHL⟩⟩ <;> subst hv
  case bitReg => exact ⟨_, exec_bitForm k (.reg r) s, setFlags_report rfl⟩
  case resReg => exact exec_result_of_setReg (exec_resForm k (.reg r) s) (fun _ hj => getLsbD_clearBit k _ hj)
  case setReg => exact exec_result_of_setReg (exec_setForm k (.reg r) s) (fun j _ => getLsbD_setBit k _ j)
  case bitAtHL => exact ⟨_, exec_bitForm k .atHL s, setFlags_report rfl⟩
  case resAtHL => exact exec_result_of_writeBack (exec_resForm k .atHL s) (fun _ hj => getLsbD_clearBit k _ hj)
  case setAtHL => exact exec_result_of_writeBack (exec_setForm k .atHL s) (fun j _ => getLsbD_setBit k _ j)

end Sys2Proof.Machine
end

section
/-!
PROOFS of the control claims (spec 46_control.md). A jump writes PC alone, a call is `State.call` and a return
`State.ret`; a conditional form is the unconditional one when its condition holds, and otherwise reports its shorter
count and nothing else.
-/

namespace Sys2Proof.Machine

/-! ## Jumps: one state for both outcomes -/

theorem jumpIf_eq (cc : Cond) (a : Word) (s : State) : jumpIf cc a s =
    .next { s with pc := if s.cond cc then a else s.pc, cycles := if s.cond cc then 16 else 12 } := by
  unfold jumpIf
  split <;> rfl

theorem jumpRelIf_eq (cc : Cond) (d : Byte) (s : State) : jumpRelIf cc d s =
    .next { s with pc := if s.cond cc then s.relTarget d else s.pc, cycles := if s.cond cc then 12 else 8 } := by
  unfold jumpRelIf
  split <;> rfl

/-- Settles O40: the unconditional jumps are their meanings, and each conditional one is one state in its condition. -/
theorem jumpResult : Obligations.JumpResult := by
  intro s nn v cc taken htaken
  obtain rfl : taken = s.cond cc := by cases cc <;> exact htaken
  exact ⟨exec_jp_a16 nn s, exec_jpHL s, exec_jr_r8 v s, (exec_jpForm cc nn s).trans (jumpIf_eq cc nn s),
    (exec_jrForm cc v s).trans (jumpRelIf_eq cc v s)⟩

/-! ## Calls and returns: taken or not -/

theorem callIf_of_cond {cc : Cond} {s : State} (a : Word) (taken : s.cond cc = true) :
    callIf cc a s = .next ((s.call a).report 24) :=
  if_pos taken

theorem callIf_of_not_cond {cc : Cond} {s : State} (a : Word) (skipped : s.cond cc = false) :
    callIf cc a s = .next (s.report 12) :=
  if_neg (ne_true_of_eq_false skipped)

theorem returnIf_of_cond {cc : Cond} {s : State} (taken : s.cond cc = true) :
    returnIf cc s = .next (s.ret.report 20) :=
  if_pos taken

theorem returnIf_of_not_cond {cc : Cond} {s : State} (skipped : s.cond cc = false) :
    returnIf cc s = .next (s.report 8) :=
  if_neg (ne_true_of_eq_false skipped)

/-- Settles O41: `State.call` writes the two bytes of PC below SP and goes to its target; every call taken and every
restart is one. -/
theorem callResult : Obligations.CallResult := by
  rintro s _ nn cc y rfl
  exact ⟨exec_call_a16 nn s, exec_rstForm y s, fun taken => (exec_callForm cc nn s).trans (callIf_of_cond nn taken),
    fun skipped => (exec_callForm cc nn s).trans (callIf_of_not_cond nn skipped)⟩

/-- Settles O42: `State.ret` reads the two bytes at SP into PC; every return taken is one, RETI's with IME set. -/
theorem returnResult : Obligations.ReturnResult := by
  rintro s _ cc rfl
  exact ⟨exec_ret s, exec_reti s, fun taken => (exec_retForm cc s).trans (returnIf_of_cond taken),
    fun skipped => (exec_retForm cc s).trans (returnIf_of_not_cond skipped)⟩

end Sys2Proof.Machine
end

section
/-!
PROOFS of the processor control claims (spec 47_misc.md) and of the interrupt and completion claims (60_exceptions.md).
With FAULT at NONE a step has three outcomes, each decided after the wake: `step_of_takesInterrupt`, `step_of_parked` and
`step_of_running`; the PC an interrupt entry pushes in RAM is the word the next pop returns.
-/

namespace Sys2Proof.Machine

/-! ## The wake and the interrupt check -/

@[simp] theorem State.pending_wake (s : State) : s.wake.pending = s.pending := by simp [State.pending]

/-- A pending enabled source clears HALTED (R400). -/
theorem State.wake_of_pending {s : State} (h : s.pending ≠ 0) : s.wake = { s with halted := false } := if_neg h

/-- With nothing pending the wake does nothing (R400). -/
theorem State.wake_of_not_pending {s : State} (h : s.pending = 0) : s.wake = s := if_pos h

/-- The entry sequence clears HALTED itself, so the wake before it makes no difference (R400, R412). -/
@[simp] theorem State.serviceInterrupt_wake (s : State) (n : Nat) : s.wake.serviceInterrupt n = s.serviceInterrupt n := by
  unfold State.wake
  split <;> rfl

theorem State.takesInterrupt_iff {s : State} : s.takesInterrupt = true ↔ s.ime = true ∧ s.pending ≠ 0 := by
  simp [State.takesInterrupt]

theorem State.not_takesInterrupt_of_ime {s : State} (h : s.ime = false) : s.takesInterrupt = false := by
  simp [State.takesInterrupt, h]

theorem State.not_takesInterrupt_of_pending {s : State} (h : s.pending = 0) : s.takesInterrupt = false := by
  simp [State.takesInterrupt, h]

/-- The start of a step neither reads nor writes HALTED. -/
theorem State.beginStep_setHalted (s : State) (b : Bool) :
    ({ s with halted := b } : State).beginStep = { s.beginStep with halted := b } := by
  unfold State.beginStep State.presentRequests
  dsimp only
  split <;> rfl

/-- The check of R400 sees the bits of `IE & IF` that are sources. -/
theorem State.getLsbD_pending (s : State) {i : Nat} (hi : i < 5) :
    s.pending.getLsbD i = (s.ieReg &&& s.ifReg).getLsbD i := by
  have source : (0x1F#8).getLsbD i = true := by
    revert i
    decide
  rw [State.pending, BitVec.getLsbD_and, source, Bool.and_true]

/-- The source taken is the least one set (R411). -/
theorem leastSource_eq {p : Byte} {i : Nat} (hi : i < 5) (set : p.getLsbD i = true)
    (least : ∀ j, j < i → p.getLsbD j = false) : leastSource p = i := by
  unfold leastSource
  generalize p.getLsbD = bit at *
  interval_cases i <;> simp [set, least]

/-! ## The outcomes of a step -/

/-- Outcome 1 of R400: the least pending enabled source is serviced. -/
theorem step_of_takesInterrupt {s : State} (hf : s.faultLatch = .none)
    (hi : s.beginStep.wake.takesInterrupt = true) :
    step s = .next (s.beginStep.serviceInterrupt (leastSource s.beginStep.pending)) := by
  simp [step, hf, State.runStep, hi]

/-- Outcome 2 of R400: the core stays parked. -/
theorem step_of_parked {s : State} (hf : s.faultLatch = .none) (hi : s.beginStep.wake.takesInterrupt = false)
    (hh : s.beginStep.wake.halted = true) : step s = .next (s.beginStep.wake.report 4) := by
  simp [step, hf, State.runStep, hi, hh]

/-- With the master enable set and a source pending, the step services (R400, R411). -/
theorem step_of_pending {s : State} (hf : s.faultLatch = .none) (ime : s.ime = true)
    (pending : s.beginStep.pending ≠ 0) :
    step s = .next (s.beginStep.serviceInterrupt (leastSource s.beginStep.pending)) :=
  step_of_takesInterrupt hf (State.takesInterrupt_iff.mpr ⟨by simpa using ime, by simpa using pending⟩)

/-- With the master enable clear, a pending source ends the halt and the same step runs the next instruction (R417). -/
theorem step_of_pending_masked {s : State} (hf : s.faultLatch = .none) (ime : s.ime = false)
    (pending : s.beginStep.pending ≠ 0) : step s = ({ s.beginStep with halted := false } : State).runInstr := by
  have woken := State.wake_of_pending pending
  rw [step_of_running hf (State.not_takesInterrupt_of_ime (by simpa using ime)) (by rw [woken]), woken]

/-! ## What RETI leaves -/

@[simp] theorem State.returnFromInterrupt_sp (s : State) : s.returnFromInterrupt.sp = s.sp + 2 := rfl

@[simp] theorem State.returnFromInterrupt_halted (s : State) : s.returnFromInterrupt.halted = s.halted :=
  State.afterPop_halted s

@[simp] theorem State.returnFromInterrupt_f (s : State) : s.returnFromInterrupt.f = s.f := State.afterPop_f s

@[simp] theorem State.reg_returnFromInterrupt (s : State) (r : Reg8) : s.returnFromInterrupt.reg r = s.reg r :=
  State.reg_afterPop s r

/-! ## What an interrupt entry pushes -/

/-- The entry clears one bit of IF, and its push leaves IF unless it lands there (R412). -/
theorem State.serviceInterrupt_ifReg {s : State} (n : Nat) (lo : s.sp - 2 ≠ 0xFF0F#16) (hi : s.sp - 2 + 1 ≠ 0xFF0F#16) :
    (s.serviceInterrupt n).ifReg = s.ifReg &&& ~~~(1#8 <<< n) :=
  (State.writeByte_ifReg _ _ _ hi).trans (State.writeByte_ifReg _ _ _ lo)

/-- With the stack in RAM, the word on top of it after an interrupt entry is the interrupted PC (R412). -/
theorem State.popValue_serviceInterrupt {s : State} (inv : Inv s) (ramLo : s.isRam (s.sp - 2) = true)
    (ramHi : s.isRam (s.sp - 1) = true) (n : Nat) : (s.beginStep.serviceInterrupt n).popValue = s.pc := by
  generalize hu : s.beginStep.wake = u
  have start : Inv u := hu ▸ inv.beginStep_wake
  have sp : u.sp = s.sp := by simp [← hu]
  have ram : ∀ y, u.isRam y = s.isRam y := State.isRam_congr (by simp [← hu]) (by simp [← hu])
  have entered : Inv { u with halted := false, ime := false, ifReg := u.ifReg &&& ~~~(1#8 <<< n) } := { start with }
  have popped : (u.serviceInterrupt n).popValue = u.pc :=
    State.popValue_of_push entered ((ram _).trans (sp ▸ ramLo)) ((ram _).trans (sp ▸ ramHi))
      (.trans (.report _ 16) (.setPc _ _)) (by simp)
  simpa [← hu] using popped

/-- The word on top of a stack in RAM is its two bytes, low byte at SP (R75, R350). -/
theorem State.readByte_of_popValue {s : State} {v : Word} (popped : s.popValue = v)
    (quiet : s.forwards (s.sp + 1) = false) :
    s.readByte s.sp = loByte v ∧ s.readByte (s.sp + 1) = hiByte v := by
  subst popped
  rw [loByte_popValue, hiByte_popValue, State.readByte_afterRead _ _ quiet]
  exact ⟨rfl, rfl⟩

/-! ## The claims -/

/-- Settles O59: the entry leaves every register and F, and RETI pops the PC it pushed. -/
theorem serviceThenReturn : Obligations.ServiceThenReturn := by
  intro s inv hf taken ramLo ramHi
  have popped := State.popValue_serviceInterrupt inv ramLo ramHi
  exact ⟨_, _, step_of_takesInterrupt hf taken, exec_reti _, popped _, by simp, rfl, by simp, by simp, by simp⟩

/-- Settles O9: the entry sequence for the least source, its push spelled out. -/
theorem stepServicesLeastSource : Obligations.StepServicesLeastSource := by
  rintro s _ i hf rfl ime hi set least
  have set' : s.beginStep.pending.getLsbD i = true := (State.getLsbD_pending _ hi).trans set
  have pending : s.beginStep.pending ≠ 0 := fun none => by simp [none] at set'
  have source : leastSource s.beginStep.pending = i :=
    leastSource_eq hi set' fun j hj => (State.getLsbD_pending _ (hj.trans hi)).trans (least j hj)
  rw [step_of_pending hf ime pending, source]
  rfl

/-- Settles O10: source 0 is the one pending; its entry clears bit 0 of IF and pushes PC. -/
theorem serviceScenario : Obligations.ServiceScenario := by
  intro s inv hf ifReg ieReg ime
  have pending : s.beginStep.pending = 1#8 := by simp [State.pending, ifReg, ieReg]
  have run := step_of_pending hf ime (by rw [pending]; decide)
  rw [pending] at run
  have next : s.sp - 2 + 1 = s.sp - 1 := by bv_omega
  refine ⟨_, run, rfl, by simp, by simp, rfl, by simp, fun lo hi => ?_, fun ramLo ramHi => ?_⟩
  · rw [State.serviceInterrupt_ifReg _ (by simpa using lo) (by rwa [State.beginStep_sp, next]), ifReg]
    rfl
  · have popped := State.popValue_serviceInterrupt inv ramLo ramHi (leastSource 1#8)
    have sp : (s.beginStep.serviceInterrupt (leastSource 1#8)).sp = s.sp - 2 := by simp
    have quiet : (s.beginStep.serviceInterrupt (leastSource 1#8)).forwards (s.sp - 1) = false :=
      (State.forwards_congr (by simp) _).trans (State.forwards_of_isRam ramHi)
    have bytes := State.readByte_of_popValue popped (by rwa [sp, next])
    rwa [sp, next] at bytes

/-- Settles O11: with a source pending the wake ends the halt and IME decides; with none the core stays parked. -/
theorem haltParksOrWakes : Obligations.HaltParksOrWakes := by
  rintro s _ hf halted rfl
  refine ⟨fun pending ime => step_of_pending hf ime pending, fun pending ime => ?_, fun none => ?_⟩
  · have start := State.beginStep_setHalted s false
    have awake := step_of_pending_masked (s := { s with halted := false }) hf ime (by rw [start]; exact pending)
    rw [start] at awake
    have run := step_of_pending_masked hf ime pending
    exact ⟨run, run.trans awake.symm⟩
  · have asleep := State.wake_of_not_pending none
    have parked := step_of_parked hf (by rw [asleep, State.not_takesInterrupt_of_pending none]) (by simpa [asleep])
    rw [parked, asleep]
    rfl

/-- Settles O43: each is its meaning. -/
theorem processorControlResult : Obligations.ProcessorControlResult := fun s pad =>
  ⟨exec_nop s, exec_halt s, exec_di s, exec_ei s, exec_stop pad s, fun i hi => exec_undefined i hi s⟩

/-- Settles O6: the third outcome of a step, with the decoder's answer. -/
theorem stepRunsDecodedInstruction : Obligations.StepRunsDecodedInstruction := by
  intro s i rest hf hi hh decoded
  rw [step_of_running hf hi hh, State.runInstr, decoded]

/-- Settles O12: every form of instruction has a next state (`exec_completes`). -/
theorem everyInstructionCompletes : Obligations.EveryInstructionCompletes := exec_completes

end Sys2Proof.Machine
end
